-- ==== Sys2Proof/Word.lean ====
section
/-! DEFINITION. The words of the SG-24: 16-bit words, 32-bit numbers (spec/00_scope.md 0.7). -/

namespace Sys2Proof

/-- A word is 16 bits (0.7, Words). -/
abbrev Word := BitVec 16

/-- A 32-bit number: a counter, a Sweep Number or a Time Base value (0.7). -/
abbrev Word32 := BitVec 32

/-- A sequence number: 32 bits, wrapping, compared by distance and never by raw value (0.7, R67). -/
abbrev SeqNum := BitVec 32

/-- A place of the Word Pool: 65,536 words, the first following the last (R65). -/
abbrev PoolPlace := BitVec 16

end Sys2Proof
end

