-- ==== Sys2Proof/Config.lean ====
section
/-! DEFINITION. What one SG-24 fixes: its capacities and identity (R162), and the one free value of the
model, the order of two acts where the manual gives none (assumption log entry 6). -/

namespace Sys2Proof.Config

/-- Vendor code of IDENTIFY (R162 field 1). -/
def vendorCode : Nat := 0x01A6

/-- Part code of IDENTIFY (R162 field 2). -/
def partCode : Nat := 0x0024

/-- Revision of IDENTIFY (R162 field 3). -/
def revision : Nat := 3

/-- Frame Index places (R64). -/
def indexPlaces : Nat := 1024

/-- Word Pool words (R65). -/
def poolWords : Nat := 65536

/-- FQ-H places (R139). -/
def fqHPlaces : Nat := 16

/-- FQ-N places (R140). -/
def fqNPlaces : Nat := 8

/-- Response Queue places (R158). -/
def responsePlaces : Nat := 4

/-- The largest payload a packet may carry, in words (R178, R180). -/
def maxPayload : Nat := 1280

/-- The credit limit (R104, R105). -/
def maxCredit : Nat := 255

/-- The keepalive count's starting value, in ticks (R121, R145). -/
def keepaliveTicks : Nat := 10

/-- How many sweeps one step may begin before the cascade of sweeps with no included entries must have
met a sweep that includes one: a Divisor is at most 255 (R1), so at most 254 such sweeps stand in a row.
DEDUCED (assumption log entry 9). -/
def settleFuel : Nat := 256

/-- FREE VALUE: which of several acts that fall together is taken first, where the manual says only that
either order gives a defined outcome (R132; the notices of an H link loss, R116 and R142). The argument
is `State.choices`, a count of the choices made so far; the result is read modulo the number of
contenders. It has no body: nothing can be proved of its value (assumption log entry 6). -/
opaque freeChoice : Nat → Nat

end Sys2Proof.Config
end

