-- ==== Sys2Proof/Syntax.lean ====
section
/-! DEFINITION. The commands of the SG-24: one constructor of `Instr` for each row of
spec/opcode_table.json, with the row's operands, and the packets they carry (R181). -/

namespace Sys2Proof

/-- The two ports: Port H ends the H link, Port N the N link (10). -/
inductive Port where
  | h
  | n
deriving DecidableEq, Repr

/-- What a row leaves open of a packet's header words: Src, Tag and the spare bits (R181). -/
structure Header where
  src    : BitVec 5
  spare0 : BitVec 2
  tag    : BitVec 8
  spare1 : BitVec 8
deriving DecidableEq, Repr

/-- A packet without its Length and check word, which its payload determines (R178, R179, R181). -/
structure Packet where
  kind    : BitVec 4
  dest    : BitVec 5
  hdr     : Header
  payload : List Word
deriving DecidableEq, Repr

/-- What a receiver has between two line symbols when it finds a packet damaged (R180): the run of words,
and how the packet was left. -/
inductive RxRun where
  /-- An end delimiter closed the packet. -/
  | closed (words : List Word)
  /-- A start delimiter arrived while the packet was open: it opens a new packet. -/
  | restarted (words : List Word)
  /-- A 1,285th word arrived without an end delimiter. -/
  | overlong (words : List Word)
deriving DecidableEq, Repr

/-- How a hardware reset began (R175). -/
inductive ResetCause where
  /-- The supplies came up. -/
  | power
  /-- RST- was taken low while the supplies were present. -/
  | line
deriving DecidableEq, Repr

/-- A level of a trigger line (R128). -/
inductive Level where
  | low
  | high
deriving DecidableEq, Repr

/-- How a change of a line's seen level meets a TMAP_WRITE of the line (R126). -/
inductive ChangeTiming where
  /-- No TMAP_WRITE of the line falls together with the change, or the change is taken before it. -/
  | apart
  /-- The change falls together with a TMAP_WRITE of the line that was taken first. -/
  | withWrite
deriving DecidableEq, Repr

/-- A change of a line's seen level (R128): the raw level has held `level` for 2 us; `timing` says whether the change
fell together with a TMAP_WRITE of the line that was taken just before it (R126; assumption log entry 25). -/
structure LevelChange where
  level : Level
  timing : ChangeTiming
deriving DecidableEq, Repr

/-- The soft trigger sources T4 to T7 (R125, R133). -/
inductive SoftSource where
  | t4
  | t5
  | t6
  | t7
deriving DecidableEq, Repr

/-- The kinds Port H offers to FQ-N (R183 step 4). -/
inductive NodeBound where
  | ncmd
  | sreq
deriving DecidableEq, Repr

/-- The kinds Port N offers to FQ-H without inspection (R184 step 4). -/
inductive HeadBound where
  | srep
  | nrsp
deriving DecidableEq, Repr

/-- The commands of the block: one constructor for each row of spec/opcode_table.json. A command packet's
row carries the rest of the header and `params`, the payload words after the command code. -/
inductive Instr where
  /-- HARDWARE_RESET (R175). -/
  | hardwareReset (cause : ResetCause)
  /-- IDENTIFY (R162). -/
  | identify (hdr : Header) (params : List Word)
  /-- GET_ITEM (R163). -/
  | getItem (hdr : Header) (params : List Word)
  /-- SET_ITEM (R164). -/
  | setItem (hdr : Header) (params : List Word)
  /-- SCAN_WRITE (R2). -/
  | scanWrite (hdr : Header) (params : List Word)
  /-- SCAN_READ (R3). -/
  | scanRead (hdr : Header) (params : List Word)
  /-- EVENT_WRITE (R152). -/
  | eventWrite (hdr : Header) (params : List Word)
  /-- EVENT_READ (R153). -/
  | eventRead (hdr : Header) (params : List Word)
  /-- TMAP_WRITE (R126). -/
  | tmapWrite (hdr : Header) (params : List Word)
  /-- TMAP_READ (R127). -/
  | tmapRead (hdr : Header) (params : List Word)
  /-- ARM (R17). -/
  | arm (hdr : Header) (params : List Word)
  /-- STOP (R18). -/
  | stop (hdr : Header) (params : List Word)
  /-- HALT (R19). -/
  | halt (hdr : Header) (params : List Word)
  /-- SWEEP_NOW (R10). -/
  | sweepNow (hdr : Header) (params : List Word)
  /-- CREDIT (R105). -/
  | credit (hdr : Header) (params : List Word)
  /-- ACK (R86). -/
  | ack (hdr : Header) (params : List Word)
  /-- MARK_SET (R92). -/
  | markSet (hdr : Header) (params : List Word)
  /-- MARK_CLEAR (R93). -/
  | markClear (hdr : Header) (params : List Word)
  /-- MARK_READ (R94). -/
  | markRead (hdr : Header) (params : List Word)
  /-- REPLAY (R112). -/
  | replay (hdr : Header) (params : List Word)
  /-- REPLAY_ABORT (R115). -/
  | replayAbort (hdr : Header) (params : List Word)
  /-- STORE_STATUS (R79). -/
  | storeStatus (hdr : Header) (params : List Word)
  /-- SEQ_STATUS (R23). -/
  | seqStatus (hdr : Header) (params : List Word)
  /-- FLUSH (R177). -/
  | flush (hdr : Header) (params : List Word)
  /-- RESET (R176). -/
  | reset (hdr : Header) (params : List Word)
  /-- COUNTERS_READ (R166). -/
  | countersRead (hdr : Header) (params : List Word)
  /-- COUNTERS_CLEAR (R166). -/
  | countersClear (hdr : Header) (params : List Word)
  /-- UNKNOWN_COMMAND (R160): the payload is empty or its first word names no command. -/
  | unknownCommand (hdr : Header) (payload : List Word)
  /-- COMMAND_OVERFLOW (R159): a GCMD of any payload that finds the Response Queue full. -/
  | commandOverflow (hdr : Header) (payload : List Word)
  /-- PACKET_DAMAGED (R180). -/
  | packetDamaged (port : Port) (run : RxRun)
  /-- IDLE_RECEIVED (R183, R184). -/
  | idleReceived (port : Port) (dest : BitVec 5) (hdr : Header) (payload : List Word)
  /-- UNKNOWN_KIND (R182): the packet's Kind is 12 plus `low`. -/
  | unknownKind (port : Port) (low : BitVec 2) (dest : BitVec 5) (hdr : Header) (payload : List Word)
  /-- PACKET_MISROUTED (R183, R184). -/
  | packetMisrouted (port : Port) (pkt : Packet)
  /-- BAD_TRIGGER (R184). -/
  | badTrigger (port : Port) (hdr : Header) (payload : List Word)
  /-- SREP_RECEIVED (R34). -/
  | srepReceived (hdr : Header) (payload : List Word)
  /-- SLOT_TIMER_EXPIRY (R37). -/
  | slotTimerExpiry (slot : Fin 4)
  /-- PERIOD_TIMER_EXPIRY (R13). -/
  | periodTimerExpiry
  /-- H_SILENCE_EXPIRY (R185). -/
  | hSilenceExpiry
  /-- N_SILENCE_EXPIRY (R185). -/
  | nSilenceExpiry
  /-- H_TRANSMISSION_END (R118). -/
  | hTransmissionEnd
  /-- H_KEEPALIVE_EXPIRY (R121). -/
  | hKeepaliveExpiry
  /-- N_TRANSMISSION_END (R144). -/
  | nTransmissionEnd
  /-- N_KEEPALIVE_EXPIRY (R145). -/
  | nKeepaliveExpiry
  /-- FORWARD_TO_NODES (R140). -/
  | forwardToNodes (kind : NodeBound) (dest : BitVec 5) (hdr : Header) (payload : List Word)
  /-- FORWARD_TO_HEAD (R139). -/
  | forwardToHead (kind : HeadBound) (hdr : Header) (payload : List Word)
  /-- NEVT_RECEIVED (R148). -/
  | nevtReceived (hdr : Header) (payload : List Word)
  /-- TRIG_RECEIVED (R133). -/
  | trigReceived (port : Port) (hdr : Header) (source : SoftSource)
  /-- SEEN_LEVEL_CHANGE (R128). -/
  | seenLevelChange (line : Fin 4) (change : LevelChange)
  /-- RELEASE (R76). -/
  | release
  /-- TIME_BASE_TICK (R165). -/
  | timeBaseTick
  /-- LEAVE_HARDWARE_RESET (R175). -/
  | leaveHardwareReset
deriving DecidableEq, Repr

end Sys2Proof
end

