-- ==== Sys2Proof/Machine/Packets.lean ====
section
/-! DEFINITION. Packets on the links: the layout of the header words, the check word, when a received run
of words is damaged, and the sorting of an undamaged packet at each port (R178 to R184). -/

namespace Sys2Proof.Machine

/-! ### Packet kinds (Table 10-2) -/

def kindIDLE : BitVec 4 := 0
def kindSREQ : BitVec 4 := 1
def kindSREP : BitVec 4 := 2
def kindNCMD : BitVec 4 := 3
def kindNRSP : BitVec 4 := 4
def kindNEVT : BitVec 4 := 5
def kindGCMD : BitVec 4 := 6
def kindGRSP : BitVec 4 := 7
def kindGNOT : BitVec 4 := 8
def kindSWF : BitVec 4 := 9
def kindRPF : BitVec 4 := 10
def kindTRIG : BitVec 4 := 11

/-! ### Addresses (Table 0-3) -/

def addrHead : BitVec 5 := 0
def addrGatherer : BitVec 5 := 30
def addrAllNodes : BitVec 5 := 31

/-- An address of a node, 1 to 29 (Table 0-3). -/
def isNodeAddr (a : BitVec 5) : Bool := decide (1 ≤ a.toNat ∧ a.toNat ≤ 29)

/-! ### The header words and the check word -/

/-- Header word 0: Kind, Dest, Src and two spare bits, from bit 15 down (Table 10-1). -/
def headerWord0 (p : Packet) : Word := p.kind ++ p.dest ++ p.hdr.src ++ p.hdr.spare0

/-- Header word 1: Tag and eight spare bits (Table 10-1). -/
def headerWord1 (p : Packet) : Word := p.hdr.tag ++ p.hdr.spare1

/-- Header word 2: the Length, the number of payload words (Table 10-1, R178). -/
def headerWord2 (p : Packet) : Word := BitVec.ofNat 16 p.payload.length

/-- One bit fed to the check register, generator x^16 + x^12 + x^5 + 1 (R179). -/
def crcBit (r : Word) (b : Bool) : Word :=
  if (r.msb ^^ b) then (r <<< 1) ^^^ 0x1021#16 else r <<< 1

/-- One word fed to the check register, more significant bit first (R179). -/
def crcWord (r : Word) (w : Word) : Word :=
  [15, 14, 13, 12, 11, 10, 9, 8, 7, 6, 5, 4, 3, 2, 1, 0].foldl (fun r i => crcBit r (w.getLsbD i)) r

/-- The check word over a list of words: the register starts at FFFFh and is sent without inversion
(R179). -/
def checkWord (ws : List Word) : Word := ws.foldl crcWord 0xFFFF#16

/-- The words of a packet between its delimiters: three header words, the payload, the check word
(R178). -/
def packetWords (p : Packet) : List Word :=
  let body := headerWord0 p :: headerWord1 p :: headerWord2 p :: p.payload
  body ++ [checkWord body]

/-- A closed run of words is damaged: fewer than four words, a Length above 1,280, a word count other
than Length + 4, or a failed check (R180). -/
def runDamaged (ws : List Word) : Bool :=
  match ws with
  | _ :: _ :: len :: _ :: _ =>
    decide (Config.maxPayload < len.toNat) || decide (ws.length ≠ len.toNat + 4)
      || decide (checkWord ws.dropLast ≠ ws.getLastD 0)
  | _ => true

/-- The run is one the receiver finds damaged (R180). A run that a start delimiter cuts off holds at most
1,284 words, since the 1,285th closes the packet. -/
def rxRunDamaged (r : RxRun) : Bool :=
  match r with
  | .closed ws => decide (ws.length ≤ 1284) && runDamaged ws
  | .restarted ws => decide (ws.length ≤ 1284)
  | .overlong ws => decide (ws.length = 1285)

/-! ### Sorting (R182, R183, R184) -/

/-- Where a port hands an undamaged packet, or why it discards it. -/
inductive SortedTo where
  | idle
  | unknownKind
  | management
  | trigger (source : SoftSource)
  | badTrigger
  | requestTable
  | fqN
  | fqH
  | eventFilter
  | misrouted
deriving DecidableEq, Repr

/-- The soft source that a trigger number names (R190: 4 to 7). -/
def softSourceOf (w : Word) : Option SoftSource :=
  match w.toNat with
  | 4 => some .t4
  | 5 => some .t5
  | 6 => some .t6
  | 7 => some .t7
  | _ => none

/-- The check of a TRIG with Dest 30: Length 1 and a trigger number from 4 to 7 (R184). -/
def trigCheck (payload : List Word) : Option SoftSource :=
  match payload with
  | [w] => softSourceOf w
  | _ => none

/-- A TRIG with Dest 30, at either port (R184). -/
def sortTrig (payload : List Word) : SortedTo :=
  match trigCheck payload with
  | some t => .trigger t
  | none => .badTrigger

/-- Port H sorts an undamaged packet (R183, the first step that applies). -/
def sortH (p : Packet) : SortedTo :=
  if p.kind = kindIDLE then .idle
  else if 12 ≤ p.kind.toNat then .unknownKind
  else if p.dest = addrGatherer ∧ p.kind = kindGCMD then .management
  else if p.dest = addrGatherer ∧ p.kind = kindTRIG then sortTrig p.payload
  else if (isNodeAddr p.dest ∨ p.dest = addrAllNodes) ∧ (p.kind = kindNCMD ∨ p.kind = kindSREQ) then .fqN
  else .misrouted

/-- Port N sorts an undamaged packet (R184, the first step that applies). -/
def sortN (p : Packet) : SortedTo :=
  if p.kind = kindIDLE then .idle
  else if 12 ≤ p.kind.toNat then .unknownKind
  else if p.dest = addrGatherer ∧ p.kind = kindSREP then .requestTable
  else if p.dest = addrGatherer ∧ p.kind = kindTRIG then sortTrig p.payload
  else if p.dest = addrHead ∧ (p.kind = kindSREP ∨ p.kind = kindNRSP) then .fqH
  else if p.dest = addrHead ∧ p.kind = kindNEVT then .eventFilter
  else .misrouted

/-- A port sorts an undamaged packet (R183, R184). -/
def sortPacket (port : Port) (p : Packet) : SortedTo :=
  match port with
  | .h => sortH p
  | .n => sortN p

/-! ### The packets that rows carry -/

/-- The Kind that FORWARD_TO_NODES carries. -/
def nodeBoundKind (k : NodeBound) : BitVec 4 :=
  match k with
  | .ncmd => kindNCMD
  | .sreq => kindSREQ

/-- The Kind that FORWARD_TO_HEAD carries. -/
def headBoundKind (k : HeadBound) : BitVec 4 :=
  match k with
  | .srep => kindSREP
  | .nrsp => kindNRSP

/-- The header of a packet the part builds: Src 30 and spare bits 0 (R181). -/
def builtHeader (tag : BitVec 8) : Header := { src := addrGatherer, spare0 := 0, tag := tag, spare1 := 0 }

/-- A packet the part builds (R181). -/
def built (kind : BitVec 4) (dest : BitVec 5) (tag : BitVec 8) (payload : List Word) : Packet :=
  { kind := kind, dest := dest, hdr := builtHeader tag, payload := payload }

/-- The IDLE packet of Port H: Dest 0, Tag 0, no payload (R121). -/
def idlePacketH : Packet := built kindIDLE addrHead 0 []

/-- The IDLE packet of Port N: Dest 31, Tag 0, no payload (R145). -/
def idlePacketN : Packet := built kindIDLE addrAllNodes 0 []

end Sys2Proof.Machine
end

