-- ==== Sys2Proof/WellFormed.lean ====
section
/-! DEFINITION. When a command is one the part can meet: its packet is undamaged (or damaged, for
PACKET_DAMAGED) and sorts to the row that carries it (R180, R182 to R184, R192). -/

namespace Sys2Proof

open Sys2Proof.Machine

/-- A payload an undamaged packet can carry (R180). -/
def payloadFits (payload : List Word) : Bool := decide (payload.length ≤ Config.maxPayload)

/-- The parameters of a GCMD: the code word stands before them (R192). -/
def paramsFit (params : List Word) : Bool := decide (params.length + 1 ≤ Config.maxPayload)

/-- The payload names no command: it is empty, or its code word is 26 or above (R160, R192). -/
def codeUnknown (payload : List Word) : Bool :=
  match payload with
  | [] => true
  | c :: _ => decide (26 ≤ c.toNat)

/-- A destination Port H forwards to: 1 to 29, or 31 (R183 step 4). -/
def forwardable (dest : BitVec 5) : Bool := isNodeAddr dest || decide (dest = addrAllNodes)

/-- The command is one the part can meet. -/
def Instr.wellFormed (i : Instr) : Bool :=
  match i with
  | .hardwareReset _ => true
  | .identify _ ps => paramsFit ps
  | .getItem _ ps => paramsFit ps
  | .setItem _ ps => paramsFit ps
  | .scanWrite _ ps => paramsFit ps
  | .scanRead _ ps => paramsFit ps
  | .eventWrite _ ps => paramsFit ps
  | .eventRead _ ps => paramsFit ps
  | .tmapWrite _ ps => paramsFit ps
  | .tmapRead _ ps => paramsFit ps
  | .arm _ ps => paramsFit ps
  | .stop _ ps => paramsFit ps
  | .halt _ ps => paramsFit ps
  | .sweepNow _ ps => paramsFit ps
  | .credit _ ps => paramsFit ps
  | .ack _ ps => paramsFit ps
  | .markSet _ ps => paramsFit ps
  | .markClear _ ps => paramsFit ps
  | .markRead _ ps => paramsFit ps
  | .replay _ ps => paramsFit ps
  | .replayAbort _ ps => paramsFit ps
  | .storeStatus _ ps => paramsFit ps
  | .seqStatus _ ps => paramsFit ps
  | .flush _ ps => paramsFit ps
  | .reset _ ps => paramsFit ps
  | .countersRead _ ps => paramsFit ps
  | .countersClear _ ps => paramsFit ps
  | .unknownCommand _ payload => payloadFits payload && codeUnknown payload
  | .commandOverflow _ payload => payloadFits payload
  | .packetDamaged _ run => rxRunDamaged run
  | .idleReceived _ _ _ payload => payloadFits payload
  | .unknownKind _ _ _ _ payload => payloadFits payload
  | .packetMisrouted port pkt => payloadFits pkt.payload && decide (sortPacket port pkt = .misrouted)
  | .badTrigger _ _ payload => payloadFits payload && decide (trigCheck payload = none)
  | .srepReceived _ payload => payloadFits payload
  | .slotTimerExpiry _ => true
  | .periodTimerExpiry => true
  | .hSilenceExpiry => true
  | .nSilenceExpiry => true
  | .hTransmissionEnd => true
  | .hKeepaliveExpiry => true
  | .nTransmissionEnd => true
  | .nKeepaliveExpiry => true
  | .forwardToNodes _ dest _ payload => payloadFits payload && forwardable dest
  | .forwardToHead _ _ payload => payloadFits payload
  | .nevtReceived _ payload => payloadFits payload
  | .trigReceived _ _ _ => true
  | .seenLevelChange _ _ => true
  | .release => true
  | .timeBaseTick => true
  | .leaveHardwareReset => true

end Sys2Proof
end

