-- ==== Sys2Proof/Decode.lean ====
section
/-! DEFINITION. The command that a word spells by the bits of spec/opcode_table.json. No row of the table
gives bits (the part's commands are packets and events, not words of an instruction memory), so no word
spells a command. -/

namespace Sys2Proof

/-- The command that `w`, `nbits` bits wide, spells by the table: none, since no row has bits. -/
def decodeTableWord (_nbits _w : Nat) : Option Instr := none

end Sys2Proof
end

