-- ==== Sys2Proof/Machine/State.lean ====
section
/-! DEFINITION. The state of the SG-24, block by block, and its values after a power-on reset.
Every field names the rule of spec/ that gives it. All of it is plain data. -/

namespace Sys2Proof.Machine

/-! ### The Scan Sequencer (Section 1) -/

/-- A Scan List entry (Table 1-1). -/
structure ScanEntry where
  enabled : Bool
  node    : BitVec 5
  channel : BitVec 6
  count   : Nat
  divisor : Nat
  timeout : Nat
  retries : Nat
deriving DecidableEq, Repr

/-- The reset contents of a Scan List entry (Table 1-1, last column). -/
def ScanEntry.reset : ScanEntry :=
  { enabled := false, node := 1, channel := 0, count := 1, divisor := 1, timeout := 10, retries := 0 }

/-- The six sequencer states (Table 1-2). -/
inductive SeqState where
  | idle
  | waitStart
  | sweep
  | stepPause
  | admitWait
  | linkWait
deriving DecidableEq, Repr

/-- The three modes (R12, R13, R14). -/
inductive SweepMode where
  | single
  | continuous
  | step
deriving DecidableEq, Repr

/-- The cause of a start (R6). -/
inductive StartCause where
  | period
  | command
  | trigger (source : Fin 8)
deriving DecidableEq, Repr

/-- The SEQUENCER counters, in the order of Table 1-4. -/
structure SeqCounters where
  sweepsBegun     : Word32
  framesCompleted : Word32
  framesAbandoned : Word32
  startsTaken     : Word32
  startsLatched   : Word32
  startOverruns   : Word32
  startsIgnored   : Word32
  latchedCleared  : Word32
deriving DecidableEq, Repr

def SeqCounters.zero : SeqCounters := ⟨0, 0, 0, 0, 0, 0, 0, 0⟩

/-- The Scan Sequencer (1.3). -/
structure Sequencer where
  /-- The 64 Scan List entries (R1). -/
  scanList    : Vector ScanEntry 64
  /-- The sequencer state (Table 1-2). -/
  st          : SeqState
  /-- The mode of the arming, read from SWEEP_MODE at ARM (R17). -/
  mode        : SweepMode
  /-- SWEEP_PERIOD as fixed at ARM (R13, R17). -/
  period      : Nat
  /-- MAX_OUTSTANDING as fixed at ARM (R17, R28). -/
  maxOut      : Nat
  /-- The Sweep Number (R5). -/
  sweepNo     : Word32
  /-- The period timer: `none` stopped, `some r` running with `r` ticks left (R13). -/
  periodTimer : Option Nat
  /-- The pending-start latch: empty, or one start with its cause (R7). -/
  latch       : Option StartCause
  /-- The stop-pending flag (R18). -/
  stopPending : Bool
  /-- Included entries made available for issue and not yet issued, ascending (R11, R29). -/
  available   : List (Fin 64)
  /-- Included entries not yet made available: STEP mode's later entries, ascending (R14). -/
  remaining   : List (Fin 64)
  /-- The counters of group SEQUENCER (R24). -/
  ctr         : SeqCounters
deriving DecidableEq, Repr

/-! ### The Request Table (Section 2) -/

/-- What a request slot is doing (R27). A FREE slot's entry, attempts and timer have no meaning, and a
QUEUED slot's timer is stopped, so they hold none. -/
inductive SlotUse where
  | free
  | queued (entry : Fin 64) (attempts : Nat)
  | await (entry : Fin 64) (attempts : Nat) (timer : Nat)
deriving DecidableEq, Repr

/-- A request slot (Table 2-1). Its generation outlives its use. -/
structure Slot where
  use : SlotUse
  gen : BitVec 6
deriving DecidableEq, Repr

def Slot.reset : Slot := { use := .free, gen := 0 }

/-- The REQUESTS counters, in the order of Table 2-3. -/
structure ReqCounters where
  issued        : Word32
  transmitted   : Word32
  retries       : Word32
  timerExpiries : Word32
  matched       : Word32
  busyReplies   : Word32
  staleReplies  : Word32
  delivered     : Word32
  linkDowns     : Word32
  withdrawn     : Word32
deriving DecidableEq, Repr

def ReqCounters.zero : ReqCounters := ⟨0, 0, 0, 0, 0, 0, 0, 0, 0, 0⟩

/-- The Request Table: four slots and the two parts of the request queue (R27, R31). -/
structure RequestTable where
  slots   : Vector Slot 4
  /-- The retries waiting, at the front of the queue (R31). -/
  retryQ  : List (Fin 4)
  /-- The first attempts waiting, behind the retries (R31). -/
  firstQ  : List (Fin 4)
  ctr     : ReqCounters
deriving DecidableEq, Repr

/-! ### The Sweep Assembler (Section 3) -/

/-- The result of one included entry (R39, R49): only OK carries samples. -/
inductive SlotResult where
  | ok (samples : List Word)
  | timeout
  | busy
  | nochan
  | malformed
  | linkdown
deriving DecidableEq, Repr

/-- A frame slot (R49). -/
structure FrameSlot where
  entry  : Fin 64
  result : SlotResult
deriving DecidableEq, Repr

/-- The contents of a sweep frame without its Seq (Table 3-1). `gap` is the Gap Count, present exactly when
the GAP flag is set. -/
structure Frame where
  sweepNo    : Word32
  startTime  : Word32
  cause      : StartCause
  gap        : Option Word
  isLinkDown : Bool
  isFinal    : Bool
  isPartial  : Bool
  slots      : List FrameSlot
deriving DecidableEq, Repr

/-- The frame under assembly with the list of included entries of its sweep (R46). The two progress counts
of R46 are the lengths of `included` and of the frame's slots. -/
structure Assembly where
  frame    : Frame
  included : List (Fin 64)
  /-- Completion has been declared (R46: collecting, then complete). -/
  complete : Bool
deriving DecidableEq, Repr

/-- The Sweep Assembler. -/
structure Assembler where
  /-- The frame under assembly, when there is one (R46). -/
  current    : Option Assembly
  /-- The pending gap, 0 to 65,535 (R59). -/
  pendingGap : Word
deriving DecidableEq, Repr

/-! ### The Frame Store (Section 4) -/

/-- A stored frame: its Seq, its contents (R64) and the place of its first word in the Word Pool (R65). Its length
is worked out from its contents (R51), and its words stand from its place on. -/
structure StoredFrame where
  seq   : SeqNum
  frame : Frame
  place : PoolPlace
deriving DecidableEq, Repr

/-- The fill state (R72). -/
inductive FillState where
  | normal
  | high
deriving DecidableEq, Repr

/-- The STORE counters, in the order of Table 4-4. -/
structure StoreCounters where
  admitted    : Word32
  released    : Word32
  discarded   : Word32
  holds       : Word32
  highEntries : Word32
  flushed     : Word32
deriving DecidableEq, Repr

def StoreCounters.zero : StoreCounters := ⟨0, 0, 0, 0, 0, 0⟩

/-- The Frame Store (R64, R65, R67, R72). -/
structure FrameStore where
  /-- The Frame Index, oldest first; the frame count is its length (R64). -/
  frames    : List StoredFrame
  /-- Word Pool words in use (R65). -/
  occupancy : Nat
  /-- The place of the Word Pool behind the words of the frame admitted last, where the next frame's words begin
  (R65). -/
  poolNext  : PoolPlace
  nextSeq   : SeqNum
  fill      : FillState
  ctr       : StoreCounters
deriving DecidableEq, Repr

/-! ### Retention Control (Section 5) -/

/-- A bookmark (R91). Only a SET bookmark has a target. -/
inductive Bookmark where
  | free
  | pending
  | set (target : SeqNum)
deriving DecidableEq, Repr

/-- Retention Control (R83). The retention mode is item RETAIN_MODE. -/
structure Retention where
  ackedThrough : SeqNum
  bookmarks    : Vector Bookmark 8
  /-- The retention floor, as last computed (R83, R89). -/
  floor        : SeqNum
deriving DecidableEq, Repr

/-! ### The Delivery Unit (Section 6) -/

/-- An ACTIVE replay session (R111, R113). -/
structure Session where
  cursor : SeqNum
  /-- The session's end: the last frame it replays. -/
  last   : SeqNum
  /-- The frames in the session, worked out at the opening. -/
  frames : Nat
deriving DecidableEq, Repr

/-- The seven delivery counters, in the order of Table 6-2. -/
structure DelCounters where
  liveSent      : Word32
  replaySent    : Word32
  framesCut     : Word32
  opened        : Word32
  endedDone     : Word32
  endedAbort    : Word32
  endedLinkFlush : Word32
deriving DecidableEq, Repr

def DelCounters.zero : DelCounters := ⟨0, 0, 0, 0, 0, 0, 0⟩

/-- The Delivery Unit (6.1). -/
structure Delivery where
  /-- The credit, 0 to 255 (R104). -/
  credit     : Nat
  liveCursor : SeqNum
  /-- The replay session: `none` is IDLE (R111). -/
  session    : Option Session
  /-- The frames sent by this session, or by the last one while IDLE (R111). -/
  framesSent : Nat
  ctr        : DelCounters
deriving DecidableEq, Repr

/-! ### The ports (Sections 6, 8 and 10) -/

/-- A link's state (R185). -/
inductive LinkState where
  | down
  | up
deriving DecidableEq, Repr

/-- Whether a receiver has a packet open (R180, R189). -/
inductive Receiver where
  | waiting
  | packetOpen
deriving DecidableEq, Repr

/-- The ten counters of a port, in the order of Table 10-4. -/
structure PortCounters where
  received    : Word32
  damaged     : Word32
  idles       : Word32
  unknown     : Word32
  misrouted   : Word32
  badTriggers : Word32
  losses      : Word32
  gains       : Word32
  sent        : Word32
  cutOff      : Word32
deriving DecidableEq, Repr

def PortCounters.zero : PortCounters := ⟨0, 0, 0, 0, 0, 0, 0, 0, 0, 0⟩

/-- What each port holds (R185, R118, R121, R144, R145, R189). -/
structure PortBlock where
  link      : LinkState
  /-- The silence timer: ticks left while the link is UP (R185). While the link is DOWN it is stopped, and the count
  it holds then, 0, is the model's choice (DESIGN CHOICE, assumption log entry 22). -/
  silence   : Nat
  /-- The keepalive count, 0 to 10 ticks (R121, R145). -/
  keepalive : Nat
  /-- The packet in transmission, copied when its transmission began; `none` is a free transmitter (R71,
  R118, R144). -/
  tx        : Option Packet
  rx        : Receiver
  ctr       : PortCounters
deriving DecidableEq, Repr

/-- The kind of frame Port H served last (R120). -/
inductive FrameKind where
  | live
  | replay
deriving DecidableEq, Repr

/-- The source Port N served last (R144). -/
inductive LinkSource where
  | request
  | forward
deriving DecidableEq, Repr

/-! ### The Trigger Unit (Section 7) -/

/-- What a line source looks for (Table 7-1). -/
inductive Detection where
  | rise
  | fall
  | high
  | low
deriving DecidableEq, Repr

/-- What a source does when it fires (Table 7-1). -/
inductive TrigAction where
  | none
  | start
  | stop
  | halt
  | mark
deriving DecidableEq, Repr

/-- A Trigger Map entry (Table 7-1). -/
structure TrigEntry where
  detection : Detection
  action    : TrigAction
  bookmark  : Fin 8
deriving DecidableEq, Repr

def TrigEntry.reset : TrigEntry := { detection := .rise, action := .none, bookmark := 0 }

/-- A trigger line: the debounce filter's seen level and the edge detector's reference level, each absent
until the line first has a seen level (R128, R129). -/
structure Line where
  seen : Option Level
  ref  : Option Level
deriving DecidableEq, Repr

/-- The counters of group TRIGGERS, in the order of Table 7-3. -/
structure TrigCounters where
  /-- Source counts T0 to T7: 16 bits, stopping at 65,535. -/
  sources      : Vector Word 8
  fromHead     : Word32
  fromNodes    : Word32
  marksTaken   : Word32
  markRefusals : Word32
deriving DecidableEq, Repr

def TrigCounters.zero : TrigCounters := ⟨Vector.replicate 8 0, 0, 0, 0, 0⟩

/-- The Trigger Unit (Section 7). -/
structure TriggerUnit where
  map   : Vector TrigEntry 8
  lines : Vector Line 4
  ctr   : TrigCounters
deriving DecidableEq, Repr

/-! ### The forward queues and the Event Filter (Section 8) -/

/-- What the filter does with a matched event (Table 8-2, R154). -/
inductive Verdict where
  | pass
  | drop
deriving DecidableEq, Repr

/-- An Event Table entry with its hit count (Table 8-2). -/
structure EventEntry where
  enabled : Bool
  node    : BitVec 5
  code    : BitVec 8
  mask    : BitVec 8
  verdict : Verdict
  trigger : Option SoftSource
  mark    : Option (Fin 8)
  hits    : Word
deriving DecidableEq, Repr

def EventEntry.reset : EventEntry :=
  { enabled := false, node := 0, code := 0, mask := 0, verdict := .pass, trigger := none, mark := none, hits := 0 }

/-- The FORWARD counters, in the order of Table 8-3. -/
structure FwdCounters where
  hAccepted    : Word32
  hSent        : Word32
  hDropFull    : Word32
  hDropLink    : Word32
  nAccepted    : Word32
  nSent        : Word32
  nDropFull    : Word32
  nDropLink    : Word32
  evPassed     : Word32
  evDropped    : Word32
  evMalformed  : Word32
  trigEffects  : Word32
  markEffects  : Word32
deriving DecidableEq, Repr

def FwdCounters.zero : FwdCounters := ⟨0, 0, 0, 0, 0, 0, 0, 0, 0, 0, 0, 0, 0⟩

/-- The forward queues and the Event Filter (Section 8). Item EVENT_DEFAULT is among the items. -/
structure Forwarding where
  /-- FQ-H, front first, at most 16 packets (R139). -/
  fqH         : List Packet
  /-- FQ-N, front first, at most 8 packets (R140). -/
  fqN         : List Packet
  /-- The Event Table (R146). -/
  table       : Vector EventEntry 32
  /-- The default hit count (R146). -/
  defaultHits : Word
  ctr         : FwdCounters
deriving DecidableEq, Repr

/-! ### The Management Unit (Section 9) -/

/-- Item ADMIT_POLICY (R52). -/
inductive AdmitPolicy where
  | hold
  | discard
deriving DecidableEq, Repr

/-- Item RETAIN_MODE, the retention mode (R84). -/
inductive RetainMode where
  | acked
  | sent
deriving DecidableEq, Repr

/-- The configuration items (Table 9-3), but for TIME, which is the Time Base. -/
structure Items where
  sweepMode      : SweepMode
  firstEntry     : Nat
  lastEntry      : Nat
  sweepPeriod    : Nat
  maxOutstanding : Nat
  admitPolicy    : AdmitPolicy
  retainMode     : RetainMode
  fillHigh       : Nat
  fillLow        : Nat
  markPre        : Nat
  silenceTime    : Nat
  noticeEnable   : BitVec 8
  eventDefault   : Verdict
deriving DecidableEq, Repr

/-- The defaults of Table 9-3. -/
def Items.default : Items :=
  { sweepMode := .single, firstEntry := 0, lastEntry := 0, sweepPeriod := 1000, maxOutstanding := 4,
    admitPolicy := .hold, retainMode := .acked, fillHigh := 49152, fillLow := 16384, markPre := 0,
    silenceTime := 100, noticeEnable := 255, eventDefault := .pass }

/-- The GRSP status codes (Table 9-1). -/
inductive Status where
  | ok
  | duplicate
  | busy
  | state
  | range
  | ahead
  | badcmd
  | length
deriving DecidableEq, Repr

/-- A GRSP waiting in the Response Queue (R157). -/
structure Response where
  tag     : BitVec 8
  code    : Word
  status  : Status
  results : List Word
deriving DecidableEq, Repr

/-- The causes of RESTART (Table 9-6). -/
inductive RestartCause where
  | power
  | line
  | command
deriving DecidableEq, Repr

/-- The causes of REPLAY_END (R116). -/
inductive EndCause where
  | done
  | abort
  | flush
  | link
deriving DecidableEq, Repr

/-- The causes of SEQ_IDLE (Table 9-6). -/
inductive IdleCause where
  | singleDone
  | stop
  | halt
  | flush
deriving DecidableEq, Repr

/-- The fields of a notice, by kind (Table 9-6). -/
inductive NoticeBody where
  | restart (cause : RestartCause)
  | fill (state : FillState) (occupancy : Nat)
  | sweepLost (count : Word)
  | startOverrun (count : Word) (source : StartCause)
  | fwdDrop (hCount nCount : Word)
  | linkN (state : LinkState)
  | replayEnd (cause : EndCause) (framesSent : Nat)
  | seqIdle (cause : IdleCause)
deriving DecidableEq, Repr

/-- A notice in the Notice Queue, with its Posted At field (R168, R172). -/
structure Notice where
  postedAt : Word32
  body     : NoticeBody
deriving DecidableEq, Repr

/-- The COMMANDS counters, in the order of Table 9-5. -/
structure CmdCounters where
  taken       : Word32
  overflows   : Word32
  badcmd      : Word32
  length      : Word32
  other       : Word32
  respSent    : Word32
  respLost    : Word32
  posted      : Word32
  coalesced   : Word32
  suppressed  : Word32
  noticesSent : Word32
  resets      : Word32
deriving DecidableEq, Repr

/-- The COMMANDS counters after hardware reset: notices posted at 1 (R167). -/
def CmdCounters.reset : CmdCounters := ⟨0, 0, 0, 0, 0, 0, 0, 1, 0, 0, 0, 0⟩

def CmdCounters.zero : CmdCounters := ⟨0, 0, 0, 0, 0, 0, 0, 0, 0, 0, 0, 0⟩

/-- The Management Unit (Section 9). -/
structure Management where
  items    : Items
  /-- The Time Base (R165). -/
  timeBase : Word32
  /-- The Response Queue, front first, at most four (R158). -/
  respQ    : List Response
  /-- The Notice Queue, front first, at most one notice of each kind (R169). -/
  noticeQ  : List Notice
  ctr      : CmdCounters
deriving DecidableEq, Repr

/-! ### The whole machine -/

/-- Why a step stops with a fault. No rule of the spec stops the part, so there is no constructor: no
meaning can answer a fault (safe: nothing is hidden behind one). -/
inductive Fault where
deriving DecidableEq, Repr

/-- Why a command has no meaning. -/
inductive Refusal where
  /-- Raised only by an arm of `exec` whose command has no meaning yet (safe); no arm raises it now. -/
  | notModelled (mnemonic : String)
deriving DecidableEq, Repr

/-- The SG-24. -/
structure State where
  /-- `some` while RST- is held low or the power-on reset lasts, with how it began (R175). -/
  held       : Option ResetCause
  seq        : Sequencer
  req        : RequestTable
  asm        : Assembler
  store      : FrameStore
  ret        : Retention
  del        : Delivery
  portH      : PortBlock
  portN      : PortBlock
  /-- Port H's record of the frame kind served last (R120). -/
  frameTurn  : FrameKind
  /-- Port N's record of the source served last (R144). -/
  sourceTurn : LinkSource
  trig       : TriggerUnit
  fwd        : Forwarding
  mgmt       : Management
  /-- The model's own: how many free choices the part has made (`Config.freeChoice`). -/
  choices    : Nat
  /-- The model's own: the commands that wait, first in, first out. -/
  pending    : List Instr
deriving DecidableEq, Repr

/-! ### Reset values -/

/-- R25. The copies of SWEEP_MODE, SWEEP_PERIOD and MAX_OUTSTANDING that ARM fixes hold the items'
defaults: DESIGN CHOICE (assumption log entry 7). -/
def Sequencer.reset : Sequencer :=
  { scanList := Vector.replicate 64 ScanEntry.reset, st := .idle, mode := .single, period := 1000, maxOut := 4,
    sweepNo := 0, periodTimer := none, latch := none, stopPending := false, available := [], remaining := [],
    ctr := SeqCounters.zero }

/-- R45. -/
def RequestTable.reset : RequestTable :=
  { slots := Vector.replicate 4 Slot.reset, retryQ := [], firstQ := [], ctr := ReqCounters.zero }

/-- R62. -/
def Assembler.reset : Assembler := { current := none, pendingGap := 0 }

/-- R81. That the first frame's words begin at place 0 of the free Word Pool: DESIGN CHOICE (assumption log
entry 26). -/
def FrameStore.reset : FrameStore :=
  { frames := [], occupancy := 0, poolNext := 0, nextSeq := 0, fill := .normal, ctr := StoreCounters.zero }

/-- Table 5-1. -/
def Retention.reset : Retention :=
  { ackedThrough := 0xFFFFFFFF#32, bookmarks := Vector.replicate 8 .free, floor := 0 }

/-- R104, R106, R111, R124. -/
def Delivery.reset : Delivery :=
  { credit := 0, liveCursor := 0, session := none, framesSent := 0, ctr := DelCounters.zero }

/-- R189. That the stopped silence timer holds 0: DESIGN CHOICE (assumption log entry 22). -/
def PortBlock.reset : PortBlock :=
  { link := .down, silence := 0, keepalive := Config.keepaliveTicks, tx := none, rx := .waiting,
    ctr := PortCounters.zero }

/-- R138: each line without a seen level. -/
def TriggerUnit.reset : TriggerUnit :=
  { map := Vector.replicate 8 TrigEntry.reset, lines := Vector.replicate 4 { seen := none, ref := none },
    ctr := TrigCounters.zero }

/-- R156. -/
def Forwarding.reset : Forwarding :=
  { fqH := [], fqN := [], table := Vector.replicate 32 EventEntry.reset, defaultHits := 0, ctr := FwdCounters.zero }

/-- R175: the Notice Queue holds RESTART alone, and notices posted stands at 1. -/
def Management.reset (cause : RestartCause) : Management :=
  { items := Items.default, timeBase := 0, respQ := [], noticeQ := [{ postedAt := 0, body := .restart cause }],
    ctr := CmdCounters.reset }

/-- The part as it has just left a power-on reset (R175, and 11.1). The two fields that are the model's own
hold 0 and the empty queue. -/
def State.reset : State :=
  { held := none, seq := Sequencer.reset, req := RequestTable.reset, asm := Assembler.reset,
    store := FrameStore.reset, ret := Retention.reset, del := Delivery.reset, portH := PortBlock.reset,
    portN := PortBlock.reset, frameTurn := .replay, sourceTurn := .forward, trig := TriggerUnit.reset,
    fwd := Forwarding.reset, mgmt := Management.reset .power, choices := 0, pending := [] }

end Sys2Proof.Machine
end

