-- ==== Sys2Proof/Machine/Flags.lean ====
section
/-! DEFINITION. The computed quantities the rules compare: sequence-number distance and standing (0.7, R67 to
R69), counts that stop, the length of a frame (R51) and the words of a frame's flags and slots (R191). -/

namespace Sys2Proof.Machine

/-! ### Counts -/

/-- A 16-bit count that stops at 65,535 rises by `n` (0.7, Counters). -/
def satAdd (c n : Word) : Word :=
  if c.toNat + n.toNat ≤ 65535 then c + n else 0xFFFF#16

/-- A 32-bit counter rises by a number of events, wrapping (0.7, Counters). -/
def addCount (c : Word32) (n : Nat) : Word32 := c + BitVec.ofNat 32 n

/-! ### Sequence numbers -/

/-- The distance of `n`: (NextSeq − n) mod 2^32 (0.7, R67). -/
def dist (next n : SeqNum) : Nat := (next - n).toNat

/-- `n` is issued: its distance is from 1 to 2^31 (0.7). -/
def issued (next n : SeqNum) : Bool := decide (1 ≤ dist next n ∧ dist next n ≤ 2147483648)

/-- How old a number is: its distance when it is issued, 0 when it is not, since a number not issued is
newer than every issued number (R69). -/
def age (next n : SeqNum) : Nat := if issued next n then dist next n else 0

/-- `a` is older than `b` (R69). -/
def older (next a b : SeqNum) : Bool := decide (age next b < age next a)

/-- `a` is newer than `b` (R69). -/
def newer (next a b : SeqNum) : Bool := older next b a

/-- The standing of a sequence number (Table 4-1). -/
inductive Standing where
  | stored
  | next
  | passed
  | ahead
deriving DecidableEq, Repr

/-- The standing of `n` by its distance and the frame count (R68). -/
def standing (st : FrameStore) (n : SeqNum) : Standing :=
  let d := dist st.nextSeq n
  if d = 0 then .next
  else if d ≤ st.frames.length then .stored
  else if d ≤ 2147483648 then .passed
  else .ahead

/-- `n` is in the store (R68). -/
def isStored (st : FrameStore) (n : SeqNum) : Bool := decide (standing st n = .stored)

/-- The Seq of the oldest frame, NextSeq − c (R69). -/
def oldestSeq (st : FrameStore) : SeqNum := st.nextSeq - BitVec.ofNat 32 st.frames.length

/-- The Seq of the newest frame, NextSeq − 1 (R69). -/
def newestSeq (st : FrameStore) : SeqNum := st.nextSeq - 1

/-- The stored frame that carries `n`, when one does (R64, R68). -/
def frameAt (st : FrameStore) (n : SeqNum) : Option StoredFrame := st.frames.find? (fun f => decide (f.seq = n))

/-! ### Frames -/

/-- The samples of a slot result: only OK has any (R49). -/
def samplesOf (r : SlotResult) : List Word :=
  match r with
  | .ok xs => xs
  | _ => []

/-- The words of a frame slot: the descriptor and the samples (R49). -/
def slotLength (x : FrameSlot) : Nat := 1 + (samplesOf x.result).length

/-- The words of a list of frame slots (R51). -/
def slotsLength (xs : List FrameSlot) : Nat := (xs.map slotLength).sum

/-- The bare length: header and slots, without the Gap Count word (R51). -/
def bareLength (f : Frame) : Nat := 8 + slotsLength f.slots

/-- The length of a frame (R51). -/
def frameLength (f : Frame) : Nat := bareLength f + (if f.gap.isSome then 1 else 0)

/-- The admission length under the pending gap (R51). -/
def admissionLength (gap : Word) (f : Frame) : Nat := bareLength f + (if gap = 0 then 0 else 1)

/-- The words of the frames of a store, added up (R66). -/
def totalLength (fs : List StoredFrame) : Nat := (fs.map (fun f => frameLength f.frame)).sum

/-- The more and the less significant word of a 32-bit value (0.7, R192). -/
def word32Words (v : Word32) : List Word := [v.extractLsb' 16 16, v.extractLsb' 0 16]

/-- A natural number in one word. -/
def natWord (n : Nat) : Word := BitVec.ofNat 16 n

/-- A natural number in two words, more significant first (0.7, R192). -/
def natWords (n : Nat) : List Word := word32Words (BitVec.ofNat 32 n)

/-- A 32-bit value from two words, more significant first (0.7, R192). -/
def word32Of (hi lo : Word) : Word32 := hi ++ lo

/-- A flag as a bit. -/
def flagBit (b : Bool) : BitVec 1 := if b then 1 else 0

/-- A start cause in one word: the cause in bits 15 and 14, the source number in bits 13 to 11, 0 unless the
cause is TRIGGER (Table 10-6, Table 10-9). -/
def causeWord (c : StartCause) : Word :=
  match c with
  | .period => 0x0000#16
  | .command => 0x4000#16
  | .trigger n => (2#2 : BitVec 2) ++ BitVec.ofNat 3 n.val ++ (0#11 : BitVec 11)

/-- The Info word: the cause word with GAP, LINKDOWN, FINAL and PARTIAL in bits 3 to 0 (Table 10-6). -/
def infoWord (f : Frame) : Word :=
  causeWord f.cause |||
    ((0#12 : BitVec 12) ++ flagBit f.gap.isSome ++ flagBit f.isLinkDown ++ flagBit f.isFinal ++ flagBit f.isPartial)

/-- The status code of a slot result (Table 10-7). -/
def resultCode (r : SlotResult) : BitVec 3 :=
  match r with
  | .ok _ => 0
  | .timeout => 1
  | .busy => 2
  | .nochan => 3
  | .malformed => 4
  | .linkdown => 5

/-- The descriptor word of a frame slot (Table 10-7). -/
def descriptorWord (x : FrameSlot) : Word :=
  BitVec.ofNat 6 x.entry.val ++ resultCode x.result ++ (0#2 : BitVec 2)
    ++ BitVec.ofNat 5 (samplesOf x.result).length

/-- A frame slot's words: the descriptor, then the samples (Table 10-6). -/
def slotWords (x : FrameSlot) : List Word := descriptorWord x :: samplesOf x.result

/-- The payload of an SWF or RPF: the sweep frame laid out as Table 10-6 gives (R191). -/
def framePayload (f : StoredFrame) : List Word :=
  word32Words f.seq ++ word32Words f.frame.sweepNo ++ word32Words f.frame.startTime
    ++ [infoWord f.frame, natWord f.frame.slots.length] ++ f.frame.gap.toList
    ++ f.frame.slots.flatMap slotWords

/-! ### The Word Pool (R65) -/

/-- The word at a place of the Word Pool: a word of the stored frame whose run covers the place, or none where the
place is free. A frame's words are those of Table 10-6, in that order (DEDUCED, assumption log entry 14). -/
def poolWord (st : FrameStore) (pl : PoolPlace) : Option Word :=
  st.frames.findSome? (fun f => (framePayload f)[(pl - f.place).toNat]?)

end Sys2Proof.Machine
end

