-- ==== Sys2Proof/Machine/Operands.lean ====
section
/-! DEFINITION. The words of commands, responses and notices: the encodings of named values (Table 10-9), the
reading of parameters, and the packets built from responses, notices, requests and frames (R190 to R192). -/

namespace Sys2Proof.Machine

/-! ### Encodings of named values (Table 10-9) -/

def statusWord (x : Status) : Word :=
  match x with
  | .ok => 0
  | .duplicate => 1
  | .busy => 2
  | .state => 3
  | .range => 4
  | .ahead => 5
  | .badcmd => 6
  | .length => 7

def seqStateWord (x : SeqState) : Word :=
  match x with
  | .idle => 0
  | .waitStart => 1
  | .sweep => 2
  | .stepPause => 3
  | .admitWait => 4
  | .linkWait => 5

def modeWord (x : SweepMode) : Word :=
  match x with
  | .single => 0
  | .continuous => 1
  | .step => 2

def boolWord (b : Bool) : Word := if b then 1 else 0

def linkWord (x : LinkState) : Word :=
  match x with
  | .down => 0
  | .up => 1

/-- The latch of SEQ_STATUS: FFFFh when empty (Table 10-9). -/
def latchWord (x : Option StartCause) : Word :=
  match x with
  | none => 0xFFFF#16
  | some c => causeWord c

/-- A line's seen level: FFFFh when it has none yet (Table 10-9). -/
def seenWord (x : Option Level) : Word :=
  match x with
  | none => 0xFFFF#16
  | some .low => 0
  | some .high => 1

def detectionWord (x : Detection) : Word :=
  match x with
  | .rise => 0
  | .fall => 1
  | .high => 2
  | .low => 3

def actionWord (x : TrigAction) : Word :=
  match x with
  | .none => 0
  | .start => 1
  | .stop => 2
  | .halt => 3
  | .mark => 4

def verdictWord (x : Verdict) : Word :=
  match x with
  | .pass => 0
  | .drop => 1

/-- The Trigger Map source that a soft source is: T4 to T7 (R125). -/
def softIndex (x : SoftSource) : Fin 8 :=
  match x with
  | .t4 => 4
  | .t5 => 5
  | .t6 => 6
  | .t7 => 7

def eventTriggerWord (x : Option SoftSource) : Word :=
  match x with
  | none => 0
  | some t => natWord (softIndex t).val

/-- Event Table Mark: 0 NONE, 1 to 8 for B0 to B7 (Table 10-9). -/
def eventMarkWord (x : Option (Fin 8)) : Word :=
  match x with
  | none => 0
  | some b => natWord (b.val + 1)

def bookmarkWord (x : Bookmark) : Word :=
  match x with
  | .free => 0
  | .pending => 1
  | .set _ => 2

/-- The target as reported: 0 unless the state is SET (R91, R94). -/
def bookmarkTarget (x : Bookmark) : SeqNum :=
  match x with
  | .free => 0
  | .pending => 0
  | .set t => t

def fillWord (x : FillState) : Word :=
  match x with
  | .normal => 0
  | .high => 1

def retainWord (x : RetainMode) : Word :=
  match x with
  | .acked => 0
  | .sent => 1

def policyWord (x : AdmitPolicy) : Word :=
  match x with
  | .hold => 0
  | .discard => 1

def restartWord (x : RestartCause) : Word :=
  match x with
  | .power => 0
  | .line => 1
  | .command => 2

def endCauseWord (x : EndCause) : Word :=
  match x with
  | .done => 0
  | .abort => 1
  | .flush => 2
  | .link => 3

def idleCauseWord (x : IdleCause) : Word :=
  match x with
  | .singleDone => 0
  | .stop => 1
  | .halt => 2
  | .flush => 3

/-- The disposition of a start (R7, R10). -/
inductive Disposition where
  | taken
  | latched
  | overrun
  | ignored
deriving DecidableEq, Repr

def dispositionWord (x : Disposition) : Word :=
  match x with
  | .taken => 0
  | .latched => 1
  | .overrun => 2
  | .ignored => 3

/-! ### Reading parameters -/

/-- A Scan List entry from its seven words, each in its range (R2, Table 1-1). -/
def scanEntryOf (ws : List Word) : Option ScanEntry :=
  match ws with
  | [en, node, ch, count, dv, timeout, retries] =>
    if en.toNat ≤ 1 ∧ 1 ≤ node.toNat ∧ node.toNat ≤ 29 ∧ ch.toNat ≤ 63 ∧ 1 ≤ count.toNat ∧ count.toNat ≤ 16
        ∧ 1 ≤ dv.toNat ∧ dv.toNat ≤ 255 ∧ 1 ≤ timeout.toNat ∧ timeout.toNat ≤ 255 ∧ retries.toNat ≤ 3 then
      some { enabled := decide (en.toNat = 1), node := BitVec.ofNat 5 node.toNat, channel := BitVec.ofNat 6 ch.toNat,
             count := count.toNat, divisor := dv.toNat, timeout := timeout.toNat, retries := retries.toNat }
    else none
  | _ => none

/-- The seven words of a Scan List entry (R3, Table 1-1). -/
def scanEntryWords (e : ScanEntry) : List Word :=
  [boolWord e.enabled, natWord e.node.toNat, natWord e.channel.toNat, natWord e.count, natWord e.divisor,
   natWord e.timeout, natWord e.retries]

/-- `n` entry records of seven words each, all in range, from the front of the words (R2). -/
def scanRecords (n : Nat) (ws : List Word) : Option (List ScanEntry) :=
  match n with
  | 0 => some []
  | k + 1 =>
    match scanEntryOf (ws.take 7), scanRecords k (ws.drop 7) with
    | some e, some es => some (e :: es)
    | _, _ => none

/-- A run of entries, First Index and Entry Count, lies within a table of `size` places (R2, R3, R153). -/
def runFits (size first count : Nat) : Bool :=
  decide (first < size ∧ 1 ≤ count ∧ count ≤ size ∧ first + count ≤ size)

/-- A bookmark number, 0 to 7 (R92, R93). -/
def bookmarkOf (w : Word) : Option (Fin 8) :=
  if h : w.toNat < 8 then some ⟨w.toNat, h⟩ else none

def detectionOf (w : Word) : Option Detection :=
  match w.toNat with
  | 0 => some .rise
  | 1 => some .fall
  | 2 => some .high
  | 3 => some .low
  | _ => none

def actionOf (w : Word) : Option TrigAction :=
  match w.toNat with
  | 0 => some .none
  | 1 => some .start
  | 2 => some .stop
  | 3 => some .halt
  | 4 => some .mark
  | _ => none

/-- Table 7-2: HIGH and LOW go with START alone. -/
def legalPairing (d : Detection) (a : TrigAction) : Bool :=
  match d with
  | .rise => true
  | .fall => true
  | .high => decide (a = .start)
  | .low => decide (a = .start)

/-- The Trigger Map entry that TMAP_WRITE stores, when its checks pass (R126): a soft source's Detection is
not checked and stays RISE. -/
def trigEntryOf (source detection action bookmark : Word) : Option (Fin 8 × TrigEntry) :=
  if h : source.toNat < 8 then
    match actionOf action, bookmarkOf bookmark with
    | some a, some b =>
      if source.toNat < 4 then
        match detectionOf detection with
        | some d =>
          if legalPairing d a then some (⟨source.toNat, h⟩, { detection := d, action := a, bookmark := b }) else none
        | none => none
      else some (⟨source.toNat, h⟩, { detection := .rise, action := a, bookmark := b })
    | _, _ => none
  else none

/-- Event Table Trigger: 0 NONE, 4 to 7 the source, anything else out of range (R152). -/
def eventTriggerOf (w : Word) : Option (Option SoftSource) :=
  if w.toNat = 0 then some none else (softSourceOf w).map some

/-- Event Table Mark: 0 NONE, 1 to 8 for B0 to B7, anything else out of range (R152). -/
def eventMarkOf (w : Word) : Option (Option (Fin 8)) :=
  if w.toNat = 0 then some none
  else if h : w.toNat - 1 < 8 then some (some ⟨w.toNat - 1, h⟩) else none

/-- The Event Table entry that EVENT_WRITE stores, its hit count apart, when every field is in range (R152). -/
def eventEntryOf (en node code mask verdict trigger mark : Word) (hits : Word) : Option EventEntry :=
  match eventTriggerOf trigger, eventMarkOf mark with
  | some t, some m =>
    if en.toNat ≤ 1 ∧ node.toNat ≤ 29 ∧ code.toNat ≤ 255 ∧ mask.toNat ≤ 255 ∧ verdict.toNat ≤ 1 then
      some { enabled := decide (en.toNat = 1), node := BitVec.ofNat 5 node.toNat, code := BitVec.ofNat 8 code.toNat,
             mask := BitVec.ofNat 8 mask.toNat, verdict := if verdict.toNat = 0 then .pass else .drop,
             trigger := t, mark := m, hits := hits }
    else none
  | _, _ => none

/-- The eight words of an Event Table record: the seven fields, then the hit count (R153). -/
def eventEntryWords (e : EventEntry) : List Word :=
  [boolWord e.enabled, natWord e.node.toNat, natWord e.code.toNat, natWord e.mask.toNat, verdictWord e.verdict,
   eventTriggerWord e.trigger, eventMarkWord e.mark, e.hits]

/-- The three words of a Trigger Map record (R127). -/
def trigEntryWords (e : TrigEntry) : List Word :=
  [detectionWord e.detection, actionWord e.action, natWord e.bookmark.val]

/-- The four words of a slot in SEQ_STATUS: state, entry index, generation, attempts made; the entry index
and attempts of a FREE slot are reported as 0 (R43). -/
def slotReport (x : Slot) : List Word :=
  match x.use with
  | .free => [0, 0, natWord x.gen.toNat, 0]
  | .queued e a => [1, natWord e.val, natWord x.gen.toNat, natWord a]
  | .await e a _ => [2, natWord e.val, natWord x.gen.toNat, natWord a]

/-! ### Configuration items (Table 9-3) -/

/-- The fourteen items. -/
inductive Item where
  | sweepMode
  | firstEntry
  | lastEntry
  | sweepPeriod
  | maxOutstanding
  | admitPolicy
  | retainMode
  | fillHigh
  | fillLow
  | markPre
  | silenceTime
  | noticeEnable
  | eventDefault
  | time
deriving DecidableEq, Repr

/-- The item of a number, 0 to 13 (Table 9-3). -/
def itemOf (w : Word) : Option Item :=
  match w.toNat with
  | 0 => some .sweepMode
  | 1 => some .firstEntry
  | 2 => some .lastEntry
  | 3 => some .sweepPeriod
  | 4 => some .maxOutstanding
  | 5 => some .admitPolicy
  | 6 => some .retainMode
  | 7 => some .fillHigh
  | 8 => some .fillLow
  | 9 => some .markPre
  | 10 => some .silenceTime
  | 11 => some .noticeEnable
  | 12 => some .eventDefault
  | 13 => some .time
  | _ => none

/-- The value of an item as it travels, two words' worth (R163). -/
def itemValue (m : Management) (i : Item) : Word32 :=
  match i with
  | .sweepMode => (modeWord m.items.sweepMode).setWidth 32
  | .firstEntry => BitVec.ofNat 32 m.items.firstEntry
  | .lastEntry => BitVec.ofNat 32 m.items.lastEntry
  | .sweepPeriod => BitVec.ofNat 32 m.items.sweepPeriod
  | .maxOutstanding => BitVec.ofNat 32 m.items.maxOutstanding
  | .admitPolicy => (policyWord m.items.admitPolicy).setWidth 32
  | .retainMode => (retainWord m.items.retainMode).setWidth 32
  | .fillHigh => BitVec.ofNat 32 m.items.fillHigh
  | .fillLow => BitVec.ofNat 32 m.items.fillLow
  | .markPre => BitVec.ofNat 32 m.items.markPre
  | .silenceTime => BitVec.ofNat 32 m.items.silenceTime
  | .noticeEnable => m.items.noticeEnable.setWidth 32
  | .eventDefault => (verdictWord m.items.eventDefault).setWidth 32
  | .time => m.timeBase

/-- The value lies in the item's range, or is the encoding of one of its values (Table 9-3, R164 check 2). -/
def itemInRange (i : Item) (v : Nat) : Bool :=
  match i with
  | .sweepMode => decide (v ≤ 2)
  | .firstEntry => decide (v ≤ 63)
  | .lastEntry => decide (v ≤ 63)
  | .sweepPeriod => decide (v ≤ 65535)
  | .maxOutstanding => decide (1 ≤ v ∧ v ≤ 4)
  | .admitPolicy => decide (v ≤ 1)
  | .retainMode => decide (v ≤ 1)
  | .fillHigh => decide (1 ≤ v ∧ v ≤ 65536)
  | .fillLow => decide (v ≤ 65535)
  | .markPre => decide (v ≤ 255)
  | .silenceTime => decide (32 ≤ v ∧ v ≤ 65535)
  | .noticeEnable => decide (v ≤ 255)
  | .eventDefault => decide (v ≤ 1)
  | .time => true

/-- The item's "when changeable" condition holds (Table 9-3, R164 check 3). -/
def itemChangeable (i : Item) (s : State) : Bool :=
  match i with
  | .sweepMode => decide (s.seq.st = .idle)
  | .firstEntry => decide (s.seq.st = .idle)
  | .lastEntry => decide (s.seq.st = .idle)
  | .sweepPeriod => decide (s.seq.st = .idle)
  | .maxOutstanding => decide (s.seq.st = .idle)
  | .retainMode => s.store.frames.isEmpty && s.del.session.isNone
  | _ => true

/-- FILL_LOW stays less than FILL_HIGH (R74, R164 check 4). -/
def itemThresholdOk (i : Item) (v : Nat) (its : Items) : Bool :=
  match i with
  | .fillHigh => decide (its.fillLow < v)
  | .fillLow => decide (v < its.fillHigh)
  | _ => true

/-- The items with one item written with a value in its range (R164); TIME is not among them. -/
def itemStore (i : Item) (v : Nat) (its : Items) : Items :=
  match i with
  | .sweepMode => { its with sweepMode := if v = 0 then .single else if v = 1 then .continuous else .step }
  | .firstEntry => { its with firstEntry := v }
  | .lastEntry => { its with lastEntry := v }
  | .sweepPeriod => { its with sweepPeriod := v }
  | .maxOutstanding => { its with maxOutstanding := v }
  | .admitPolicy => { its with admitPolicy := if v = 0 then .hold else .discard }
  | .retainMode => { its with retainMode := if v = 0 then .acked else .sent }
  | .fillHigh => { its with fillHigh := v }
  | .fillLow => { its with fillLow := v }
  | .markPre => { its with markPre := v }
  | .silenceTime => { its with silenceTime := v }
  | .noticeEnable => { its with noticeEnable := BitVec.ofNat 8 v }
  | .eventDefault => { its with eventDefault := if v = 0 then .pass else .drop }
  | .time => its

/-! ### Counter groups (Table 9-4) -/

/-- The eight groups. -/
inductive Group where
  | portH
  | portN
  | sequencer
  | requests
  | store
  | forward
  | triggers
  | commands
deriving DecidableEq, Repr

/-- The group of a code, 0 to 7 (Table 9-4). -/
def groupOf (w : Word) : Option Group :=
  match w.toNat with
  | 0 => some .portH
  | 1 => some .portN
  | 2 => some .sequencer
  | 3 => some .requests
  | 4 => some .store
  | 5 => some .forward
  | 6 => some .triggers
  | 7 => some .commands
  | _ => none

/-- A port's ten counters in order (Table 10-4). -/
def portCounterList (c : PortCounters) : List Word32 :=
  [c.received, c.damaged, c.idles, c.unknown, c.misrouted, c.badTriggers, c.losses, c.gains, c.sent, c.cutOff]

/-- The counters of a group, in the order of its table (R166); a 16-bit count stands in the lower word. -/
def groupCounters (g : Group) (s : State) : List Word32 :=
  match g with
  | .portH =>
    portCounterList s.portH.ctr ++
      [s.del.ctr.liveSent, s.del.ctr.replaySent, s.del.ctr.framesCut, s.del.ctr.opened, s.del.ctr.endedDone,
       s.del.ctr.endedAbort, s.del.ctr.endedLinkFlush]
  | .portN => portCounterList s.portN.ctr
  | .sequencer =>
    [s.seq.ctr.sweepsBegun, s.seq.ctr.framesCompleted, s.seq.ctr.framesAbandoned, s.seq.ctr.startsTaken,
     s.seq.ctr.startsLatched, s.seq.ctr.startOverruns, s.seq.ctr.startsIgnored, s.seq.ctr.latchedCleared]
  | .requests =>
    [s.req.ctr.issued, s.req.ctr.transmitted, s.req.ctr.retries, s.req.ctr.timerExpiries, s.req.ctr.matched,
     s.req.ctr.busyReplies, s.req.ctr.staleReplies, s.req.ctr.delivered, s.req.ctr.linkDowns, s.req.ctr.withdrawn]
  | .store =>
    [s.store.ctr.admitted, s.store.ctr.released, s.store.ctr.discarded, s.store.ctr.holds, s.store.ctr.highEntries,
     s.store.ctr.flushed]
  | .forward =>
    [s.fwd.ctr.hAccepted, s.fwd.ctr.hSent, s.fwd.ctr.hDropFull, s.fwd.ctr.hDropLink, s.fwd.ctr.nAccepted,
     s.fwd.ctr.nSent, s.fwd.ctr.nDropFull, s.fwd.ctr.nDropLink, s.fwd.ctr.evPassed, s.fwd.ctr.evDropped,
     s.fwd.ctr.evMalformed, s.fwd.ctr.trigEffects, s.fwd.ctr.markEffects]
  | .triggers =>
    (s.trig.ctr.sources.toList.map (fun w => w.setWidth 32)) ++
      [s.trig.ctr.fromHead, s.trig.ctr.fromNodes, s.trig.ctr.marksTaken, s.trig.ctr.markRefusals]
  | .commands =>
    [s.mgmt.ctr.taken, s.mgmt.ctr.overflows, s.mgmt.ctr.badcmd, s.mgmt.ctr.length, s.mgmt.ctr.other,
     s.mgmt.ctr.respSent, s.mgmt.ctr.respLost, s.mgmt.ctr.posted, s.mgmt.ctr.coalesced, s.mgmt.ctr.suppressed,
     s.mgmt.ctr.noticesSent, s.mgmt.ctr.resets]

/-- An Event Table entry with its hit count cleared (R155). -/
def clearHits (e : EventEntry) : EventEntry := { e with hits := 0 }

/-- Every counter of a group becomes 0; FORWARD takes the hit counts with it (R166). -/
def clearGroup (g : Group) (s : State) : State :=
  match g with
  | .portH => { s with portH := { s.portH with ctr := PortCounters.zero }, del := { s.del with ctr := DelCounters.zero } }
  | .portN => { s with portN := { s.portN with ctr := PortCounters.zero } }
  | .sequencer => { s with seq := { s.seq with ctr := SeqCounters.zero } }
  | .requests => { s with req := { s.req with ctr := ReqCounters.zero } }
  | .store => { s with store := { s.store with ctr := StoreCounters.zero } }
  | .forward =>
    { s with fwd := { s.fwd with ctr := FwdCounters.zero, table := s.fwd.table.map clearHits, defaultHits := 0 } }
  | .triggers => { s with trig := { s.trig with ctr := TrigCounters.zero } }
  | .commands => { s with mgmt := { s.mgmt with ctr := CmdCounters.zero } }

/-- All eight groups, for code 15 ALL (R166). -/
def allGroups : List Group := [.portH, .portN, .sequencer, .requests, .store, .forward, .triggers, .commands]

/-! ### Packets built by the part -/

/-- The GRSP of a response (R157, Table 10-8). -/
def responsePacket (r : Response) : Packet :=
  built kindGRSP addrHead r.tag (r.code :: statusWord r.status :: r.results)

/-- The number of a notice's kind (Table 9-6). -/
def noticeKind (b : NoticeBody) : Nat :=
  match b with
  | .restart _ => 0
  | .fill _ _ => 1
  | .sweepLost _ => 2
  | .startOverrun _ _ => 3
  | .fwdDrop _ _ => 4
  | .linkN _ => 5
  | .replayEnd _ _ => 6
  | .seqIdle _ => 7

/-- The fields of a notice, in the column order of Table 9-6 (R192). -/
def noticeFields (b : NoticeBody) : List Word :=
  match b with
  | .restart c => [restartWord c]
  | .fill f occ => fillWord f :: natWords occ
  | .sweepLost n => [n]
  | .startOverrun n src => [n, causeWord src]
  | .fwdDrop h n => [h, n]
  | .linkN l => [linkWord l]
  | .replayEnd c sent => [endCauseWord c, natWord sent]
  | .seqIdle c => [idleCauseWord c]

/-- The GNOT of a notice: kind, Posted At, fields (R174, Table 10-8). -/
def noticePacket (n : Notice) : Packet :=
  built kindGNOT addrHead 0 (natWord (noticeKind n.body) :: (word32Words n.postedAt ++ noticeFields n.body))

/-- The SWF that carries a stored frame (R108). -/
def swfPacket (f : StoredFrame) : Packet := built kindSWF addrHead 0 (framePayload f)

/-- The RPF that carries a stored frame (R114). -/
def rpfPacket (f : StoredFrame) : Packet := built kindRPF addrHead 0 (framePayload f)

/-- The tag of a slot: its number times 64 plus its generation (R30). -/
def slotTag (i : Fin 4) (gen : BitVec 6) : BitVec 8 := BitVec.ofNat 2 i.val ++ gen

/-- The SREQ of an entry under a tag (R31, R190). -/
def sreqPacket (e : ScanEntry) (tag : BitVec 8) : Packet :=
  built kindSREQ e.node tag [natWord e.channel.toNat, natWord e.count]

end Sys2Proof.Machine
end

