-- ==== Sys2Proof/Machine/Ops.lean ====
section
/-! DEFINITION. Operations that every block uses: running a command outside hardware reset, the two ports of
the state, updating one place of a table, and posting a notice (R171 to R173). -/

namespace Sys2Proof.Machine

/-- A table with place `i` replaced. -/
def setAt {α : Type} {n : Nat} (v : Vector α n) (i : Fin n) (x : α) : Vector α n := v.set i.val x i.isLt

/-- What a command or an event does to the part. While the part is held in hardware reset it does nothing
(R175, R128; assumption log entry 3). -/
def whenRunning (f : State → State) (s : State) : Host.Outcome State Fault Refusal :=
  match s.held with
  | none => .next (f s)
  | some _ => .next s

/-- An event acts only where the condition its row states holds; elsewhere it does not occur (assumption log
entry 2). -/
def onlyIf (b : Bool) (f : State → State) (s : State) : State := if b then f s else s

/-! ### Notices -/

/-- A later posting merged into a waiting notice of its kind (Table 9-6): counts add and stop at 65,535, the
other fields take the latest. -/
def mergeNotice (old new : NoticeBody) : NoticeBody :=
  match old, new with
  | .sweepLost a, .sweepLost b => .sweepLost (satAdd a b)
  | .startOverrun a _, .startOverrun b src => .startOverrun (satAdd a b) src
  | .fwdDrop h n, .fwdDrop h' n' => .fwdDrop (satAdd h h') (satAdd n n')
  | _, latest => latest

/-- The kind is enabled in NOTICE_ENABLE: bit n for kind n (R173). -/
def noticeEnabled (s : State) (b : NoticeBody) : Bool := s.mgmt.items.noticeEnable.getLsbD (noticeKind b)

/-- A notice of this kind is waiting (R169). -/
def noticeWaiting (q : List Notice) (b : NoticeBody) : Bool := q.any (fun n => decide (noticeKind n.body = noticeKind b))

/-- The Notice Queue with a posting merged in place (R171, R172). -/
def coalesce (time : Word32) (b : NoticeBody) (q : List Notice) : List Notice :=
  q.map (fun n => if noticeKind n.body = noticeKind b then { postedAt := time, body := mergeNotice n.body b } else n)

/-- A block posts a notice (R171, R173). -/
def postNotice (b : NoticeBody) (s : State) : State :=
  if noticeEnabled s b then
    if noticeWaiting s.mgmt.noticeQ b then
      { s with
        mgmt.noticeQ := coalesce s.mgmt.timeBase b s.mgmt.noticeQ
        mgmt.ctr.coalesced := s.mgmt.ctr.coalesced + 1 }
    else
      { s with
        mgmt.noticeQ := s.mgmt.noticeQ ++ [{ postedAt := s.mgmt.timeBase, body := b }]
        mgmt.ctr.posted := s.mgmt.ctr.posted + 1 }
  else { s with mgmt.ctr.suppressed := s.mgmt.ctr.suppressed + 1 }

/-! ### Ports -/

/-- The port's block. -/
def portOf (p : Port) (s : State) : PortBlock :=
  match p with
  | .h => s.portH
  | .n => s.portN

/-- The state with one port's block changed. -/
def withPort (p : Port) (f : PortBlock → PortBlock) (s : State) : State :=
  match p with
  | .h => { s with portH := f s.portH }
  | .n => { s with portN := f s.portN }

/-- A port's receive counters rise: an IDLE consumed (R183, R184). -/
def countIdle (b : PortBlock) : PortBlock := { b with ctr.idles := b.ctr.idles + 1 }

/-- An unknown kind discarded (R182). -/
def countUnknown (b : PortBlock) : PortBlock := { b with ctr.unknown := b.ctr.unknown + 1 }

/-- A misrouted packet discarded (R183, R184). -/
def countMisrouted (b : PortBlock) : PortBlock := { b with ctr.misrouted := b.ctr.misrouted + 1 }

/-- A bad trigger discarded (R184). -/
def countBadTrigger (b : PortBlock) : PortBlock := { b with ctr.badTriggers := b.ctr.badTriggers + 1 }

/-- A damaged packet discarded: the count rises, and the receiver has a packet open exactly when a start
delimiter cut the damaged one off (R180). -/
def countDamaged (run : RxRun) (b : PortBlock) : PortBlock :=
  { b with
    ctr.damaged := b.ctr.damaged + 1
    rx := match run with
      | .closed _ => .waiting
      | .restarted _ => .packetOpen
      | .overlong _ => .waiting }

/-- A port's transmitter begins a packet (R118, R144; Table 10-4 order 8). -/
def beginPacket (pkt : Packet) (b : PortBlock) : PortBlock :=
  { b with tx := some pkt, ctr.sent := b.ctr.sent + 1 }

/-- A port's transmitter finishes its packet: it is free, and the keepalive count starts anew (R118, R121,
R145). -/
def endPacket (b : PortBlock) : PortBlock := { b with tx := none, keepalive := Config.keepaliveTicks }

end Sys2Proof.Machine
end

