-- ==== Sys2Proof/Machine/Retention.lean ====
section
/-! DEFINITION. Retention Control: the retention floor (R89, R90) and the MARK action (R95, R96). -/

namespace Sys2Proof.Machine

/-- The acknowledgement candidate: AckedThrough + 1 in ACKED mode, the LiveCursor in SENT mode (R89). -/
def ackCandidate (s : State) : SeqNum :=
  match s.mgmt.items.retainMode with
  | .acked => s.ret.ackedThrough + 1
  | .sent => s.del.liveCursor

/-- The candidate of a bookmark, when it is SET (R89). -/
def bookmarkCandidate (b : Bookmark) : Option SeqNum :=
  match b with
  | .free => none
  | .pending => none
  | .set t => some t

/-- The bookmark and replay candidates (R89, R100). -/
def claimCandidates (s : State) : List SeqNum :=
  s.ret.bookmarks.toList.filterMap bookmarkCandidate ++ (s.del.session.map Session.cursor).toList

/-- The older of two candidates (R89); of two equally old, the first. -/
def olderOf (next a b : SeqNum) : SeqNum := if older next b a then b else a

/-- The retention floor: the oldest candidate (R89). -/
def floorOf (s : State) : SeqNum := (claimCandidates s).foldl (olderOf s.store.nextSeq) (ackCandidate s)

/-- Retention Control computes the floor afresh (R90). -/
def refloor (s : State) : State := { s with ret.floor := floorOf s }

/-- The release test: the store is not empty and its oldest frame is older than the floor (R75). -/
def releaseTest (s : State) : Bool :=
  match s.store.frames with
  | [] => false
  | f :: _ => older s.store.nextSeq f.seq s.ret.floor

/-- A bookmark takes a new state, and the floor is computed afresh (R90). -/
def putBookmark (b : Fin 8) (x : Bookmark) (s : State) : State :=
  refloor { s with ret.bookmarks := setAt s.ret.bookmarks b x }

/-- Where a MARK action places a FREE bookmark: PENDING under MARK_PRE 0 or on an empty store, else SET on
the frame k − 1 places older than the newest, or on the oldest when the store holds fewer (R96). -/
def markPlace (s : State) : Bookmark :=
  let k := s.mgmt.items.markPre
  let c := s.store.frames.length
  if k = 0 ∨ c = 0 then .pending
  else .set (s.store.nextSeq - BitVec.ofNat 32 (min k c))

/-- A MARK action on bookmark `b` (R95, R96, R103). -/
def markAction (b : Fin 8) (s : State) : State :=
  match s.ret.bookmarks[b] with
  | .free => putBookmark b (markPlace s) { s with trig.ctr.marksTaken := s.trig.ctr.marksTaken + 1 }
  | _ => { s with trig.ctr.markRefusals := s.trig.ctr.markRefusals + 1 }

end Sys2Proof.Machine
end

