-- ==== Sys2Proof/Machine/Store.lean ====
section
/-! DEFINITION. The Frame Store: the fill state (R72 to R74), admission into the store (R53, R70, R97),
the discard (R55) and one release (R76). -/

namespace Sys2Proof.Machine

/-- The fill state becomes HIGH: counted, and FILL posted with the occupancy (R73). -/
def fillRises (s : State) : State :=
  postNotice (.fill .high s.store.occupancy)
    { s with store.fill := .high, store.ctr.highEntries := s.store.ctr.highEntries + 1 }

/-- The fill state becomes NORMAL, and FILL is posted with the occupancy (R73). -/
def fillFalls (s : State) : State :=
  postNotice (.fill .normal s.store.occupancy) { s with store.fill := .normal }

/-- The comparison after an admission (Table 4-2). -/
def fillOnAdmission (s : State) : State :=
  match s.store.fill with
  | .normal => if s.mgmt.items.fillHigh ≤ s.store.occupancy then fillRises s else s
  | .high => s

/-- The comparison after a release (Table 4-2). -/
def fillOnRelease (s : State) : State :=
  match s.store.fill with
  | .normal => s
  | .high => if s.store.occupancy ≤ s.mgmt.items.fillLow then fillFalls s else s

/-- The re-evaluation after an accepted SET_ITEM of FILL_HIGH or FILL_LOW (R74). -/
def fillReevaluate (s : State) : State :=
  match s.store.fill with
  | .normal => fillOnAdmission s
  | .high => fillOnRelease s

/-- The complete frame fits the store (R52). -/
def frameFits (s : State) (f : Frame) : Bool :=
  decide (s.store.frames.length < Config.indexPlaces
    ∧ admissionLength s.asm.pendingGap f ≤ Config.poolWords - s.store.occupancy)

/-- The frame as admitted: GAP and the Gap Count from the pending gap (R53 step 1). -/
def gapStamped (gap : Word) (f : Frame) : Frame := { f with gap := if gap = 0 then none else some gap }

/-- A PENDING bookmark becomes SET on the admitted frame (R97). -/
def settleBookmark (seq : SeqNum) (b : Bookmark) : Bookmark :=
  match b with
  | .pending => .set seq
  | other => other

/-- The store with a frame admitted (R70 steps 1 to 5): its words follow the words of the frame admitted before it,
from the pool's last place on to its first (R65). -/
def storeAdmit (f : Frame) (st : FrameStore) : FrameStore :=
  { st with
    frames := st.frames ++ [{ seq := st.nextSeq, frame := f, place := st.poolNext }]
    occupancy := st.occupancy + frameLength f
    poolNext := st.poolNext + BitVec.ofNat 16 (frameLength f)
    nextSeq := st.nextSeq + 1
    ctr.admitted := st.ctr.admitted + 1 }

/-- Admission of the frame under assembly (R53, R70, R97). -/
def admitFrame (f : Frame) (s : State) : State :=
  let g := gapStamped s.asm.pendingGap f
  let seq := s.store.nextSeq
  let s1 := fillOnAdmission { s with asm := { current := none, pendingGap := 0 }, store := storeAdmit g s.store }
  { s1 with ret.bookmarks := s1.ret.bookmarks.map (settleBookmark seq) }

/-- The discard of the frame under assembly (R55, R60). -/
def discardFrame (s : State) : State :=
  postNotice (.sweepLost 1)
    { s with
      asm := { current := none, pendingGap := satAdd s.asm.pendingGap 1 }
      store.ctr.discarded := s.store.ctr.discarded + 1 }

/-- One release: the oldest frame leaves, its run of words returns to the pool (R65), and the fill state is evaluated
(R76 steps 1 to 4). -/
def releaseOldest (s : State) : State :=
  match s.store.frames with
  | [] => s
  | f :: rest =>
    fillOnRelease
      { s with
        store.frames := rest
        store.occupancy := s.store.occupancy - frameLength f.frame
        store.ctr.released := s.store.ctr.released + 1 }

end Sys2Proof.Machine
end

