-- ==== Sys2Proof/Machine/Requests.lean ====
section
/-! DEFINITION. The Request Table: issue (R29), retry (R38), resolution (R39), the loss of the N link (R41),
withdrawal (R42), and the classification of a reply (R35). -/

namespace Sys2Proof.Machine

/-- The slot carries no entry (R27). -/
def slotFree (x : Slot) : Bool :=
  match x.use with
  | .free => true
  | _ => false

/-- The entry a busy slot carries (R27). -/
def slotEntry (x : Slot) : Option (Fin 64) :=
  match x.use with
  | .free => none
  | .queued e _ => some e
  | .await e _ _ => some e

/-- The number of busy slots (R28). -/
def busyCount (r : RequestTable) : Nat := r.slots.toList.countP (fun x => !slotFree x)

/-- The lowest-numbered FREE slot (R29). -/
def lowestFree (r : RequestTable) : Option (Fin 4) := [0, 1, 2, 3].find? (fun i => slotFree r.slots[i])

/-- The request queue: retries, then first attempts (R31). -/
def requestQueue (r : RequestTable) : List (Fin 4) := r.retryQ ++ r.firstQ

/-- A slot's state is changed, its generation kept. -/
def setUse (i : Fin 4) (u : SlotUse) (r : RequestTable) : RequestTable :=
  { r with slots := setAt r.slots i { r.slots[i] with use := u } }

/-- Slot `i` takes entry `e` (R29). -/
def issueInto (i : Fin 4) (e : Fin 64) (r : RequestTable) : RequestTable :=
  { r with
    slots := setAt r.slots i { use := .queued e 1, gen := r.slots[i].gen + 1 }
    firstQ := r.firstQ ++ [i]
    ctr.issued := r.ctr.issued + 1 }

/-- The conditions of issue, the available entry apart (R29). -/
def mayIssue (s : State) : Bool :=
  decide (s.seq.st = .sweep ∧ s.portN.link = .up ∧ busyCount s.req < s.seq.maxOut)

/-- Entries are issued one after another while the conditions hold (R29). -/
def issueFrom (es : List (Fin 64)) (s : State) : State :=
  match es with
  | [] => s
  | e :: rest =>
    if mayIssue s then
      match lowestFree s.req with
      | some i => issueFrom rest { s with seq.available := rest, req := issueInto i e s.req }
      | none => s
    else s

/-- The available entries are issued as far as the conditions allow (R29). -/
def issueAvailable (s : State) : State := issueFrom s.seq.available s

/-- A frame slot takes its place in ascending entry order (R49). -/
def placeSlot (x : FrameSlot) (xs : List FrameSlot) : List FrameSlot :=
  match xs with
  | [] => [x]
  | y :: ys => if x.entry < y.entry then x :: y :: ys else y :: placeSlot x ys

/-- The frame under assembly takes a result (R50). -/
def giveResult (x : FrameSlot) (s : State) : State :=
  match s.asm.current with
  | some a => { s with asm.current := some { a with frame.slots := placeSlot x a.frame.slots } }
  | none => s

/-- A slot is retried: a new generation, one more attempt, and a place behind the retries waiting (R38). -/
def retrySlot (i : Fin 4) (e : Fin 64) (attempts : Nat) (r : RequestTable) : RequestTable :=
  { r with
    slots := setAt r.slots i { use := .queued e (attempts + 1), gen := r.slots[i].gen + 1 }
    retryQ := r.retryQ ++ [i]
    ctr.retries := r.ctr.retries + 1 }

/-- A slot is resolved: it becomes FREE and its result reaches the Assembler (R39). -/
def resolveSlot (i : Fin 4) (e : Fin 64) (res : SlotResult) (s : State) : State :=
  giveResult { entry := e, result := res }
    { s with req := { setUse i .free s.req with ctr.delivered := s.req.ctr.delivered + 1 } }

/-- Every slot FREE with its generation kept, and the queue empty. -/
def freeAll (r : RequestTable) : RequestTable :=
  { r with slots := r.slots.map (fun x => { x with use := .free }), retryQ := [], firstQ := [] }

/-- Results of status LINKDOWN for a list of entries (R20, R41). -/
def giveLinkDowns (es : List (Fin 64)) (s : State) : State :=
  es.foldl (fun t e => giveResult { entry := e, result := .linkdown } t) s

/-- The entries of the busy slots, slot 0 first. -/
def busyEntries (r : RequestTable) : List (Fin 64) := r.slots.toList.filterMap slotEntry

/-- The N link is lost: every busy slot resolves LINKDOWN (R41). -/
def loseSlots (s : State) : State :=
  let n := busyCount s.req
  giveLinkDowns (busyEntries s.req)
    { s with
      req := { freeAll s.req with
        ctr.delivered := addCount s.req.ctr.delivered n
        ctr.linkDowns := addCount s.req.ctr.linkDowns n } }

/-- HALT or FLUSH withdraws every busy slot (R42). -/
def withdrawSlots (r : RequestTable) : RequestTable :=
  { freeAll r with ctr.withdrawn := addCount r.ctr.withdrawn (busyCount r) }

/-- What a matched reply says (R35). -/
inductive ReplyClass where
  | good (samples : List Word)
  | malformed
  | nochan
  | busy
deriving DecidableEq, Repr

/-- The classification of a matched reply against its entry (R35, R190). -/
def classify (e : ScanEntry) (payload : List Word) : ReplyClass :=
  match payload with
  | ch :: count :: status :: samples =>
    match status.toNat with
    | 0 =>
      if ch.toNat = e.channel.toNat ∧ count.toNat = e.count ∧ samples.length = e.count then .good samples
      else .malformed
    | 1 => .busy
    | 2 => .nochan
    | _ => .malformed
  | _ => .malformed

/-- The slot a tag names: its upper two bits (R30). -/
def tagSlot (tag : BitVec 8) : Fin 4 := ⟨(tag.extractLsb' 6 2).toNat, (tag.extractLsb' 6 2).isLt⟩

/-- The generation a tag carries: its lower six bits (R30). -/
def tagGen (tag : BitVec 8) : BitVec 6 := tag.extractLsb' 0 6

end Sys2Proof.Machine
end

