-- ==== Sys2Proof/Machine/Sequencer.lean ====
section
/-! DEFINITION. The Scan Sequencer: starts and the latch (R6 to R9), the beginning of a sweep (R11), the
completion of a frame and its admission outcome (R15, R16, R52 to R55), STOP and HALT (R18, R19), the loss and
return of the N link (R20, R21), and the level gates that offer starts (R131, R132). -/

namespace Sys2Proof.Machine

/-! ### Included entries -/

/-- The entry takes part in sweep `n` of the active range (R5). -/
def isIncluded (s : State) (n : Word32) (i : Fin 64) : Bool :=
  decide (s.mgmt.items.firstEntry ≤ i.val ∧ i.val ≤ s.mgmt.items.lastEntry)
    && s.seq.scanList[i].enabled
    && decide (n.toNat % s.seq.scanList[i].divisor = 0)

/-- The included entries of sweep `n`, ascending (R5). -/
def includedEntries (s : State) (n : Word32) : List (Fin 64) := (List.finRange 64).filter (isIncluded s n)

/-- The active range passes R4: FIRST_ENTRY is not above LAST_ENTRY, and an entry of it is enabled. -/
def rangeArmable (s : State) : Bool :=
  decide (s.mgmt.items.firstEntry ≤ s.mgmt.items.lastEntry)
    && (List.finRange 64).any (fun i =>
      decide (s.mgmt.items.firstEntry ≤ i.val ∧ i.val ≤ s.mgmt.items.lastEntry) && s.seq.scanList[i].enabled)

/-! ### Level gates (R131) -/

/-- The Trigger Map entry of a line source. -/
def lineEntry (s : State) (i : Fin 4) : TrigEntry := s.trig.map[i.val]

/-- The source number of a line source. -/
def lineSource (i : Fin 4) : Fin 8 := ⟨i.val, Nat.lt_trans i.isLt (by decide)⟩

/-- The gate of a line source is open: it is a level source and the line's seen level is the one its
Detection names (R131). -/
def gateOpen (s : State) (i : Fin 4) : Bool :=
  match (lineEntry s i).detection with
  | .high => decide (s.trig.lines[i].seen = some .high)
  | .low => decide (s.trig.lines[i].seen = some .low)
  | _ => false

/-- The line sources whose gates are open. -/
def openGates (s : State) : List (Fin 4) := [0, 1, 2, 3].filter (gateOpen s)

/-- A source's count rises by 1, stopping at 65,535 (R130, R131, R137). -/
def countSource (i : Fin 8) (s : State) : State :=
  { s with trig.ctr.sources := setAt s.trig.ctr.sources i (satAdd s.trig.ctr.sources[i] 1) }

/-! ### Counting starts (Table 1-4) -/

def countTaken (s : State) : State := { s with seq.ctr.startsTaken := s.seq.ctr.startsTaken + 1 }

def countIgnored (s : State) : State := { s with seq.ctr.startsIgnored := s.seq.ctr.startsIgnored + 1 }

/-- A start finds SWEEP, ADMIT_WAIT or LINK_WAIT: it is latched, or it overruns a full latch (R7). -/
def latchStart (c : StartCause) (s : State) : Disposition × State :=
  match s.seq.latch with
  | none => (.latched, { s with seq.latch := some c, seq.ctr.startsLatched := s.seq.ctr.startsLatched + 1 })
  | some _ =>
    (.overrun, postNotice (.startOverrun 1 c) { s with seq.ctr.startOverruns := s.seq.ctr.startOverruns + 1 })

/-- The latch is emptied and a start it held is counted as cleared (R8). -/
def clearLatch (s : State) : State :=
  match s.seq.latch with
  | none => s
  | some _ => { s with seq.latch := none, seq.ctr.latchedCleared := s.seq.ctr.latchedCleared + 1 }

/-! ### Entering IDLE, and the admission outcome -/

/-- The sequencer enters IDLE and posts SEQ_IDLE (R8, R16, R18, R19). -/
def enterIdle (cause : IdleCause) (s : State) : State :=
  let s1 := clearLatch s
  postNotice (.seqIdle cause)
    { s1 with
      seq.st := .idle
      seq.periodTimer := none
      seq.stopPending := false
      seq.available := []
      seq.remaining := [] }

/-- The state after an admitted or discarded frame; an entry to WAIT_START is taken further by `settle`
(R16). -/
def afterOutcome (s : State) : State :=
  if s.seq.stopPending then enterIdle .stop s
  else if s.seq.mode = .single then enterIdle .singleDone s
  else match s.portN.link with
    | .down => { s with seq.st := .linkWait }
    | .up => { s with seq.st := .waitStart }

/-- An admission attempt for the complete frame; `first` is the attempt made at completion (R52 to R55). -/
def attemptAdmission (first : Bool) (s : State) : State :=
  match s.asm.current with
  | none => s
  | some a =>
    if frameFits s a.frame then afterOutcome (admitFrame a.frame s)
    else match s.mgmt.items.admitPolicy with
      | .discard => afterOutcome (discardFrame s)
      | .hold =>
        if first then { s with seq.st := .admitWait, store.ctr.holds := s.store.ctr.holds + 1 } else s

/-- The flags a frame takes at completion (R15, R48). -/
def completedFrame (linkDown isPartial isFinal : Bool) (f : Frame) : Frame :=
  { f with
    isLinkDown := f.isLinkDown || linkDown
    isPartial := f.isPartial || isPartial
    isFinal := f.isFinal || isFinal }

/-- The frame under assembly completes and goes to admission at once (R15, R50). -/
def completeFrame (linkDown isPartial : Bool) (s : State) : State :=
  match s.asm.current with
  | none => s
  | some a =>
    let final := s.seq.stopPending || decide (s.seq.mode = .single)
    attemptAdmission true
      { s with
        asm.current := some { a with frame := completedFrame linkDown isPartial final a.frame, complete := true }
        seq.available := []
        seq.remaining := []
        seq.ctr.framesCompleted := s.seq.ctr.framesCompleted + 1 }

/-! ### Beginning a sweep -/

/-- The frame under assembly at its creation (R46). -/
def newAssembly (c : StartCause) (n time : Word32) (included : List (Fin 64)) : Assembly :=
  { frame := { sweepNo := n, startTime := time, cause := c, gap := none, isLinkDown := false, isFinal := false,
               isPartial := false, slots := [] },
    included := included, complete := false }

/-- Steps 1 to 5 of the beginning of a sweep, and which entries are made available (R11, R13, R14). -/
def openSweep (c : StartCause) (s : State) : State :=
  let n := s.seq.sweepNo + 1
  let inc := includedEntries s n
  { s with
    asm.current := some (newAssembly c n s.mgmt.timeBase inc)
    seq.sweepNo := n
    seq.periodTimer := if s.seq.mode = .continuous then some s.seq.period else s.seq.periodTimer
    seq.st := .sweep
    seq.available := if s.seq.mode = .step then inc.take 1 else inc
    seq.remaining := if s.seq.mode = .step then inc.drop 1 else []
    seq.ctr.sweepsBegun := s.seq.ctr.sweepsBegun + 1 }

/-- A sweep begins: with no included entries its frame completes at once, else its entries are issued
(R11). -/
def beginSweep (c : StartCause) (s : State) : State :=
  let s1 := openSweep c s
  if includedEntries s (s.seq.sweepNo + 1) = [] then completeFrame false false s1 else issueAvailable s1

/-- A start taken in STEP_PAUSE: the next included entry is made available and issued (R14). -/
def carryNext (s : State) : State :=
  match s.seq.remaining with
  | [] => s
  | e :: rest => issueAvailable { s with seq.st := .sweep, seq.available := [e], seq.remaining := rest }

/-! ### Starts due on entry to WAIT_START or STEP_PAUSE -/

/-- A start that can be taken on entry to a state that takes starts (R8, R13, R17, R131). -/
inductive Contender where
  | latched (c : StartCause)
  | arriving (c : StartCause)
  | level (line : Fin 4)
deriving DecidableEq, Repr

/-- Every contender for the start (R132). -/
def contenders (arriving : Option StartCause) (s : State) : List Contender :=
  s.seq.latch.toList.map Contender.latched ++ arriving.toList.map Contender.arriving
    ++ (openGates s).map Contender.level

/-- The contender taken first: the only one, or one that the manual leaves open (R132: either order gives a
defined outcome; a free choice). -/
def pickContender (cs : List Contender) (s : State) : Option (Contender × State) :=
  match cs with
  | [] => none
  | [c] => some (c, s)
  | c :: d :: rest =>
    some ((c :: d :: rest).getD (Config.freeChoice s.choices % (rest.length + 2)) c, { s with choices := s.choices + 1 })

/-- The contender is taken: its cause, and the state with the start counted. An arriving start that a level
offer forestalls meets SWEEP (R132). -/
def takeContender (arriving : Option StartCause) (c : Contender) (s : State) : StartCause × State :=
  match c with
  | .latched k => (k, countTaken { s with seq.latch := none })
  | .arriving k => (k, countTaken s)
  | .level i =>
    let s1 := countTaken (countSource (lineSource i) s)
    match arriving with
    | none => (.trigger (lineSource i), s1)
    | some k => (.trigger (lineSource i), (latchStart k s1).2)

/-- The start taken on entry to WAIT_START or STEP_PAUSE, when one is due. A latched start that a level offer
forestalled is due again on the next entry; with a gate open there too, R132 is applied anew and a new free choice
names the start taken first (DESIGN CHOICE, assumption log entry 27). -/
def entryStart (arriving : Option StartCause) (s : State) : Option (StartCause × State) :=
  match pickContender (contenders arriving s) s with
  | none => none
  | some (c, s1) => some (takeContender arriving c s1)

/-- The PERIOD start delivered on entry to WAIT_START with SWEEP_PERIOD 0, the timer running and the latch
empty (R13). -/
def periodOnEntry (s : State) : Option StartCause :=
  if s.seq.periodTimer.isSome ∧ s.seq.period = 0 ∧ s.seq.latch = none then some .period else none

/-- The sequencer has entered WAIT_START: a start that is due begins a sweep, and a sweep with no included
entries brings it back there (R8, R13, R16, R131). -/
def settle (fuel : Nat) (s : State) : State :=
  match fuel with
  | 0 => s
  | k + 1 =>
    match s.seq.st with
    | .waitStart =>
      match entryStart (periodOnEntry s) s with
      | none => s
      | some (c, s1) => settle k (beginSweep c s1)
    | _ => s

/-- The cascade with the fuel that every reachable state needs at most. -/
def settled (s : State) : State := settle Config.settleFuel s

/-- The sequencer enters STEP_PAUSE, where a start that is due carries out the next entry (R8, R14, R131). -/
def enterStepPause (s : State) : State :=
  let s1 := { s with seq.st := .stepPause }
  match entryStart none s1 with
  | none => s1
  | some (_, s2) => carryNext s2

/-! ### An arriving start -/

/-- A start arrives and is disposed of (Table 1-3). -/
def deliverStart (c : StartCause) (s : State) : Disposition × State :=
  match s.seq.st with
  | .idle => (.ignored, countIgnored s)
  | .waitStart => (.taken, settled (beginSweep c (countTaken s)))
  | .stepPause => (.taken, carryNext (countTaken s))
  | .sweep => if s.seq.stopPending then (.ignored, countIgnored s) else latchStart c s
  | .admitWait => if s.seq.stopPending then (.ignored, countIgnored s) else latchStart c s
  | .linkWait => latchStart c s

/-- A level source whose gate opens, or is found open by TMAP_WRITE, offers a start in WAIT_START and
STEP_PAUSE alone, and its count rises as the start is taken (R131). -/
def offerLevel (i : Fin 4) (s : State) : State :=
  match s.seq.st with
  | .waitStart => (deliverStart (.trigger (lineSource i)) (countSource (lineSource i) s)).2
  | .stepPause => (deliverStart (.trigger (lineSource i)) (countSource (lineSource i) s)).2
  | _ => s

/-! ### Results and the frame -/

/-- What follows a result that reached the Assembler (R14, R15, R29, R50): the frame completes, or in STEP
mode the sequencer pauses or cuts the sweep short, or the next entry is issued into the freed place. -/
def afterResult (s : State) : State :=
  match s.asm.current with
  | none => s
  | some a =>
    if a.included.length ≤ a.frame.slots.length then settled (completeFrame false false s)
    else if s.seq.mode = .step then
      if s.seq.stopPending then settled (completeFrame false true s) else enterStepPause s
    else issueAvailable s

/-- A held frame meets an admission attempt after a release or a SET_ITEM of ADMIT_POLICY (R56, R57). -/
def retryAdmission (s : State) : State :=
  match s.seq.st with
  | .admitWait => settled (attemptAdmission false s)
  | _ => s

/-! ### ARM, STOP, HALT -/

/-- ARM accepted: the items are fixed, the Sweep Number is 0, and the sequencer waits (R17 steps 1 to 3). -/
def armSequencer (s : State) : State :=
  { s with
    seq.mode := s.mgmt.items.sweepMode
    seq.period := s.mgmt.items.sweepPeriod
    seq.maxOut := s.mgmt.items.maxOutstanding
    seq.sweepNo := 0
    seq.latch := none
    seq.stopPending := false
    seq.periodTimer := none
    seq.st := match s.portN.link with
      | .up => .waitStart
      | .down => .linkWait }

/-- ARM accepted, with the Now start and the level offers of the entry to WAIT_START (R17, R131, R132). -/
def armWith (now : Bool) (s : State) : State :=
  let s1 := armSequencer s
  match s1.seq.st with
  | .waitStart =>
    match entryStart (if now then some .command else none) s1 with
    | none => s1
    | some (c, s2) => settled (beginSweep c s2)
  | _ => if now then (deliverStart .command s1).2 else s1

/-- A held frame gains FINAL (R18, R48). -/
def markHeldFinal (s : State) : State :=
  match s.asm.current with
  | none => s
  | some a => { s with asm.current := some { a with frame.isFinal := true } }

/-- STOP, as command or action (R18, R135). -/
def stopSequencer (s : State) : State :=
  match s.seq.st with
  | .idle => s
  | .waitStart => enterIdle .stop (clearLatch s)
  | .linkWait => enterIdle .stop (clearLatch s)
  | .sweep =>
    let s1 := clearLatch s
    { s1 with seq.stopPending := true }
  | .stepPause =>
    let s1 := clearLatch s
    completeFrame false true { s1 with seq.stopPending := true }
  | .admitWait =>
    let s1 := clearLatch s
    markHeldFinal { s1 with seq.stopPending := true }

/-- The frame under assembly is abandoned (R19, R61). -/
def abandonFrame (s : State) : State :=
  match s.asm.current with
  | none => s
  | some _ =>
    { s with asm.current := none, seq.ctr.framesAbandoned := s.seq.ctr.framesAbandoned + 1 }

/-- HALT, as command or action, and the HALT within FLUSH, with the cause of its SEQ_IDLE (R19, R26, R42,
R135). -/
def haltSequencer (cause : IdleCause) (s : State) : State :=
  match s.seq.st with
  | .idle => s
  | _ =>
    let s1 := abandonFrame s
    enterIdle cause { s1 with req := withdrawSlots s1.req }

/-! ### The N link -/

/-- The Scan Sequencer and the Request Table act on the loss of the N link (R20, R41). -/
def sequencerLinkDown (s : State) : State :=
  match s.seq.st with
  | .sweep => completeFrame true false (giveLinkDowns (s.seq.available ++ s.seq.remaining) (loseSlots s))
  | .stepPause => completeFrame true false (giveLinkDowns (s.seq.available ++ s.seq.remaining) (loseSlots s))
  | .waitStart =>
    let s1 := loseSlots s
    { s1 with seq.st := .linkWait }
  | _ => loseSlots s

/-- The Scan Sequencer acts on the return of the N link (R21). -/
def sequencerLinkUp (s : State) : State :=
  match s.seq.st with
  | .linkWait => settled { s with seq.st := .waitStart }
  | _ => s

end Sys2Proof.Machine
end

