-- ==== Sys2Proof/Machine/Delivery.lean ====
section
/-! DEFINITION. The Delivery Unit and the two transmitters: the end of a replay session (R116), the
beginning of each transmission (R109, R114, R118 to R122, R144, R145), and the moment both transmitters take
what waits for them. -/

namespace Sys2Proof.Machine

/-! ### Replay sessions -/

/-- The count of an ending cause rises (Table 6-2). -/
def countEnding (cause : EndCause) (c : DelCounters) : DelCounters :=
  match cause with
  | .done => { c with endedDone := c.endedDone + 1 }
  | .abort => { c with endedAbort := c.endedAbort + 1 }
  | .flush => { c with endedLinkFlush := c.endedLinkFlush + 1 }
  | .link => { c with endedLinkFlush := c.endedLinkFlush + 1 }

/-- An ACTIVE session ends: its claim goes, REPLAY_END is posted and the frames sent are kept (R100, R116). -/
def endSession (cause : EndCause) (s : State) : State :=
  match s.del.session with
  | none => s
  | some _ =>
    postNotice (.replayEnd cause s.del.framesSent)
      (refloor { s with del.session := none, del.ctr := countEnding cause s.del.ctr })

/-! ### Beginning a transmission on the H link -/

/-- Port H begins a packet. -/
def beginH (pkt : Packet) (s : State) : State := { s with portH := beginPacket pkt s.portH }

/-- The live frame that is eligible: the frame at the LiveCursor, with the H link UP and credit (R107). -/
def liveEligible (s : State) : Option StoredFrame :=
  if s.portH.link = .up ∧ 1 ≤ s.del.credit then frameAt s.store s.del.liveCursor else none

/-- The replayed frame that is eligible: the frame at the cursor, with the H link UP and credit (R114). -/
def replayEligible (s : State) : Option StoredFrame :=
  match s.del.session with
  | none => none
  | some x => if s.portH.link = .up ∧ 1 ≤ s.del.credit then frameAt s.store x.cursor else none

/-- In SENT mode AckedThrough follows the LiveCursor and the floor is computed afresh (R101). -/
def followLive (s : State) : State :=
  match s.mgmt.items.retainMode with
  | .acked => s
  | .sent => refloor { s with ret.ackedThrough := s.del.liveCursor - 1 }

/-- The transmission of an SWF begins (R109, R120). -/
def beginSwf (f : StoredFrame) (s : State) : State :=
  followLive
    { beginH (swfPacket f) s with
      del.credit := s.del.credit - 1
      del.liveCursor := s.del.liveCursor + 1
      del.ctr.liveSent := s.del.ctr.liveSent + 1
      frameTurn := .live }

/-- The session's cursor advances past the frame sent, or the session ends DONE with it (R114 steps 3 and
4). -/
def advanceSession (s : State) : State :=
  match s.del.session with
  | none => s
  | some x =>
    if x.cursor = x.last then endSession .done s
    else refloor { s with del.session := some { x with cursor := x.cursor + 1 } }

/-- The transmission of an RPF begins (R114, R120). -/
def beginRpf (f : StoredFrame) (s : State) : State :=
  advanceSession
    { beginH (rpfPacket f) s with
      del.credit := s.del.credit - 1
      del.framesSent := s.del.framesSent + 1
      del.ctr.replaySent := s.del.ctr.replaySent + 1
      frameTurn := .replay }

/-- The arbiter's fourth source: an eligible frame, the two kinds taking turns (R120). -/
def takeFrame (s : State) : State :=
  match liveEligible s, replayEligible s with
  | none, none => s
  | some f, none => beginSwf f s
  | none, some f => beginRpf f s
  | some f, some g =>
    match s.frameTurn with
    | .replay => beginSwf f s
    | .live => beginRpf g s

/-- The first source with a packet waiting is taken: responses, notices, FQ-H, frames (R119, R158, R174,
R139). -/
def takeH (s : State) : State :=
  match s.mgmt.respQ with
  | r :: rest =>
    { beginH (responsePacket r) s with
      mgmt.respQ := rest
      mgmt.ctr.respSent := s.mgmt.ctr.respSent + 1 }
  | [] =>
    match s.mgmt.noticeQ with
    | n :: rest =>
      { beginH (noticePacket n) s with
        mgmt.noticeQ := rest
        mgmt.ctr.noticesSent := s.mgmt.ctr.noticesSent + 1 }
    | [] =>
      match s.fwd.fqH with
      | p :: rest =>
        { beginH p s with
          fwd.fqH := rest
          fwd.ctr.hSent := s.fwd.ctr.hSent + 1 }
      | [] => takeFrame s

/-- A free Port H transmitter takes a waiting packet while the H link is UP (R118, R119, R122). -/
def pumpH (s : State) : State :=
  match s.portH.tx with
  | some _ => s
  | none =>
    match s.portH.link with
    | .down => s
    | .up => takeH s

/-! ### Beginning a transmission on the N link -/

/-- Port N begins a packet and records the source it served (R144). -/
def beginN (pkt : Packet) (src : LinkSource) (s : State) : State :=
  { s with portN := beginPacket pkt s.portN, sourceTurn := src }

/-- The slot's SREQ begins: the slot leaves the queue and enters AWAIT with its timer loaded (R31, R32). -/
def sendRequest (i : Fin 4) (s : State) : State :=
  match s.req.slots[i].use with
  | .queued e attempts =>
    let entry := s.seq.scanList[e]
    { beginN (sreqPacket entry (slotTag i s.req.slots[i].gen)) .request s with
      req := { setUse i (.await e attempts entry.timeout) s.req with
        retryQ := s.req.retryQ.erase i
        firstQ := s.req.firstQ.erase i
        ctr.transmitted := s.req.ctr.transmitted + 1 } }
  | _ => s

/-- The packet at the front of FQ-N begins (R140, R144). -/
def sendForward (p : Packet) (rest : List Packet) (s : State) : State :=
  { beginN p .forward s with fwd.fqN := rest, fwd.ctr.nSent := s.fwd.ctr.nSent + 1 }

/-- The source whose turn it is: alone, or the one not served last (R144). -/
def takeN (s : State) : State :=
  match requestQueue s.req, s.fwd.fqN with
  | [], [] => s
  | i :: _, [] => sendRequest i s
  | [], p :: rest => sendForward p rest s
  | i :: _, p :: rest =>
    match s.sourceTurn with
    | .forward => sendRequest i s
    | .request => sendForward p rest s

/-- A free Port N transmitter takes a waiting packet while the N link is UP (R144, R145). -/
def pumpN (s : State) : State :=
  match s.portN.tx with
  | some _ => s
  | none =>
    match s.portN.link with
    | .down => s
    | .up => takeN s

/-- Both transmitters take what waits for them: the end of every step (R118, R144). -/
def pump (s : State) : State := pumpN (pumpH s)

/-! ### Keepalive -/

/-- A free Port H transmitter whose keepalive count has run out begins an IDLE packet (R121). -/
def keepaliveH (s : State) : State :=
  match s.portH.tx with
  | some _ => s
  | none => if s.portH.keepalive = 0 then beginH idlePacketH s else s

/-- A free Port N transmitter whose keepalive count has run out begins an IDLE packet, which is no turn of
either source (R145). -/
def keepaliveN (s : State) : State :=
  match s.portN.tx with
  | some _ => s
  | none => if s.portN.keepalive = 0 then { s with portN := beginPacket idlePacketN s.portN } else s

end Sys2Proof.Machine
end

