-- ==== Sys2Proof/Machine/Forward.lean ====
section
/-! DEFINITION. The Trigger Unit's actions (R130, R134 to R136), the forward queues (R139 to R143) and the
Event Filter (R147 to R150). -/

namespace Sys2Proof.Machine

/-! ### Firing a source -/

/-- The action a source's entry holds is delivered to its owner (R130, R134, R135, R136). -/
def deliverAction (i : Fin 8) (s : State) : State :=
  match s.trig.map[i].action with
  | .none => s
  | .start => (deliverStart (.trigger i) s).2
  | .stop => stopSequencer s
  | .halt => haltSequencer .halt s
  | .mark => markAction s.trig.map[i].bookmark s

/-- An edge source fires: it is counted, and its action is delivered (R130). -/
def fireSource (i : Fin 8) (s : State) : State := deliverAction i (countSource i s)

/-! ### The forward queues -/

/-- A packet is offered to FQ-H (R139, R141, R142). -/
def offerFqH (p : Packet) (s : State) : State :=
  match s.portH.link with
  | .down => postNotice (.fwdDrop 1 0) { s with fwd.ctr.hDropLink := s.fwd.ctr.hDropLink + 1 }
  | .up =>
    if s.fwd.fqH.length < Config.fqHPlaces then
      { s with fwd.fqH := s.fwd.fqH ++ [p], fwd.ctr.hAccepted := s.fwd.ctr.hAccepted + 1 }
    else postNotice (.fwdDrop 1 0) { s with fwd.ctr.hDropFull := s.fwd.ctr.hDropFull + 1 }

/-- A packet is offered to FQ-N (R140, R141, R142). -/
def offerFqN (p : Packet) (s : State) : State :=
  match s.portN.link with
  | .down => postNotice (.fwdDrop 0 1) { s with fwd.ctr.nDropLink := s.fwd.ctr.nDropLink + 1 }
  | .up =>
    if s.fwd.fqN.length < Config.fqNPlaces then
      { s with fwd.fqN := s.fwd.fqN ++ [p], fwd.ctr.nAccepted := s.fwd.ctr.nAccepted + 1 }
    else postNotice (.fwdDrop 0 1) { s with fwd.ctr.nDropFull := s.fwd.ctr.nDropFull + 1 }

/-- FQ-H is emptied by the loss of the H link (R142). -/
def emptyFqH (s : State) : State :=
  match s.fwd.fqH with
  | [] => s
  | q =>
    postNotice (.fwdDrop (natWord q.length) 0)
      { s with fwd.fqH := [], fwd.ctr.hDropLink := addCount s.fwd.ctr.hDropLink q.length }

/-- FQ-N is emptied by the loss of the N link (R142). -/
def emptyFqN (s : State) : State :=
  match s.fwd.fqN with
  | [] => s
  | q =>
    postNotice (.fwdDrop 0 (natWord q.length))
      { s with fwd.fqN := [], fwd.ctr.nDropLink := addCount s.fwd.ctr.nDropLink q.length }

/-! ### The Event Filter -/

/-- An entry matches an event (R147): enabled, its Node 0 or the Src, and the codes agree under the mask. -/
def entryMatches (src : BitVec 5) (code : BitVec 8) (e : EventEntry) : Bool :=
  e.enabled && (decide (e.node = 0) || decide (e.node = src)) && decide (code &&& e.mask = e.code &&& e.mask)

/-- The lookup: the lowest-numbered entry that matches (R147). -/
def lookupEvent (src : BitVec 5) (code : BitVec 8) (table : Vector EventEntry 32) : Option (Fin 32) :=
  (List.finRange 32).find? (fun i => entryMatches src code table[i])

/-- The event code of a payload that is not malformed: a code word up to 255, then up to 8 data words
(R148). -/
def eventCode (payload : List Word) : Option (BitVec 8) :=
  match payload with
  | [] => none
  | w :: data => if w.toNat ≤ 255 ∧ data.length ≤ 8 then some (w.setWidth 8) else none

/-- The packet goes on or is discarded, and is counted (R149 step 4). -/
def applyVerdict (v : Verdict) (p : Packet) (s : State) : State :=
  match v with
  | .pass => offerFqH p { s with fwd.ctr.evPassed := s.fwd.ctr.evPassed + 1 }
  | .drop => { s with fwd.ctr.evDropped := s.fwd.ctr.evDropped + 1 }

/-- The trigger side effect of a matched entry (R149 step 2). -/
def triggerEffect (t : Option SoftSource) (s : State) : State :=
  match t with
  | none => s
  | some x => fireSource (softIndex x) { s with fwd.ctr.trigEffects := s.fwd.ctr.trigEffects + 1 }

/-- The mark side effect of a matched entry (R149 step 3). -/
def markEffect (m : Option (Fin 8)) (s : State) : State :=
  match m with
  | none => s
  | some b => markAction b { s with fwd.ctr.markEffects := s.fwd.ctr.markEffects + 1 }

/-- A matched entry's hit count rises (R149 step 1). -/
def countHit (i : Fin 32) (s : State) : State :=
  { s with fwd.table := setAt s.fwd.table i { s.fwd.table[i] with hits := satAdd s.fwd.table[i].hits 1 } }

/-- An event that is not malformed is looked up and handled, in one step (R149, R150). -/
def filterEvent (code : BitVec 8) (p : Packet) (s : State) : State :=
  match lookupEvent p.hdr.src code s.fwd.table with
  | some i =>
    let e := s.fwd.table[i]
    applyVerdict e.verdict p (markEffect e.mark (triggerEffect e.trigger (countHit i s)))
  | none =>
    applyVerdict s.mgmt.items.eventDefault p { s with fwd.defaultHits := satAdd s.fwd.defaultHits 1 }

/-- The Event Filter takes an NEVT (R148). -/
def takeEvent (p : Packet) (s : State) : State :=
  match eventCode p.payload with
  | none => { s with fwd.ctr.evMalformed := s.fwd.ctr.evMalformed + 1 }
  | some code => filterEvent code p s

end Sys2Proof.Machine
end

