-- ==== Sys2Proof/Machine/Links.lean ====
section
/-! DEFINITION. Link state: an undamaged arrival (R185), the loss and return of each link and what every owner
does in the same step (R187, Table 10-3), and the ticks of the timers (R165). -/

namespace Sys2Proof.Machine

/-! ### Loss of a link -/

/-- The port's part in the loss of its link: the link is DOWN, the silence timer stops, the loss is counted
(R185). -/
def dropLink (b : PortBlock) : PortBlock :=
  { b with link := .down, silence := 0, ctr.losses := b.ctr.losses + 1 }

/-- A packet in transmission is cut off and counted, and the transmitter is free (R122, R145, Table 10-4
order 9). -/
def cutTransmission (b : PortBlock) : PortBlock :=
  match b.tx with
  | none => b
  | some _ => { b with tx := none, keepalive := Config.keepaliveTicks, ctr.cutOff := b.ctr.cutOff + 1 }

/-- The packet in transmission is a sweep frame (R122). -/
def frameInFlight (b : PortBlock) : Bool :=
  match b.tx with
  | none => false
  | some p => decide (p.kind = kindSWF ∨ p.kind = kindRPF)

/-- The Port H transmitter on the loss of the H link: the packet is cut off, a frame cut off is counted,
and the keepalive count starts anew (R122). -/
def cutH (s : State) : State :=
  { s with
    del.ctr.framesCut := addCount s.del.ctr.framesCut (if frameInFlight s.portH then 1 else 0)
    portH := { cutTransmission s.portH with keepalive := Config.keepaliveTicks } }

/-- The Response Queue is emptied by the loss of the H link (R158). -/
def loseResponses (s : State) : State :=
  { s with mgmt.respQ := [], mgmt.ctr.respLost := addCount s.mgmt.ctr.respLost s.mgmt.respQ.length }

/-- The end of a replay session and the emptying of FQ-H, in the order taken: the manual orders their
notices nowhere, so when both post the order is a free choice (R116, R142; assumption log entry 6). -/
def sessionAndFqH (s : State) : State :=
  if s.del.session.isSome ∧ s.fwd.fqH ≠ [] then
    let s1 := { s with choices := s.choices + 1 }
    if Config.freeChoice s.choices % 2 = 0 then emptyFqH (endSession .link s1) else endSession .link (emptyFqH s1)
  else emptyFqH (endSession .link s)

/-- The H link goes DOWN, and every owner acts (R122, R123, R142, R158, R187). -/
def linkDownH (s : State) : State :=
  let s1 := cutH { s with portH := dropLink s.portH }
  sessionAndFqH (loseResponses { s1 with del.credit := 0 })

/-- The N link goes DOWN, and every owner acts: LINK_N, then FWD_DROP, then what the frame's outcome posts
(R20, R41, R142, R145, R187). -/
def linkDownN (s : State) : State :=
  let s1 := { s with portN := cutTransmission (dropLink s.portN) }
  sequencerLinkDown (emptyFqN (postNotice (.linkN .down) s1))

/-! ### Return of a link -/

/-- The port's part in the return of its link (R185). -/
def raiseLink (silenceTime : Nat) (b : PortBlock) : PortBlock :=
  { b with link := .up, silence := silenceTime, ctr.gains := b.ctr.gains + 1 }

/-- The H link comes UP: the transmitter is offered what waits (R123, R187; assumption log entry 5). -/
def linkUpH (s : State) : State := pump { s with portH := raiseLink s.mgmt.items.silenceTime s.portH }

/-- The N link comes UP: LINK_N is posted and the sequencer acts, before the packet is sorted (R21, R185,
R187; assumption log entry 5). -/
def linkUpN (s : State) : State :=
  pump (sequencerLinkUp (postNotice (.linkN .up) { s with portN := raiseLink s.mgmt.items.silenceTime s.portN }))

/-! ### An undamaged packet is taken -/

/-- The port takes an undamaged packet: it is counted, and its receiver has no packet open (R180, R188). -/
def countReceived (b : PortBlock) : PortBlock := { b with rx := .waiting, ctr.received := b.ctr.received + 1 }

/-- An undamaged packet's effect on the link and the silence timer, before it is sorted (R185). -/
def arrive (p : Port) (s : State) : State :=
  let s1 := withPort p countReceived s
  match (portOf p s1).link with
  | .up => withPort p (fun b => { b with silence := s.mgmt.items.silenceTime }) s1
  | .down =>
    match p with
    | .h => linkUpH s1
    | .n => linkUpN s1

/-- A packet arrives undamaged, and what it was sorted to acts on it; then both transmitters take what
waits (R180, R183 to R185). -/
def receive (p : Port) (act : State → State) : State → Host.Outcome State Fault Refusal :=
  whenRunning (fun s => pump (act (arrive p s)))

/-! ### Ticks -/

/-- A slot's timer loses a tick in AWAIT, and stops at 0 until its expiry is taken (R33). -/
def tickSlot (x : Slot) : Slot :=
  match x.use with
  | .await e a t => { x with use := .await e a (t - 1) }
  | _ => x

/-- A port's silence timer loses a tick while its link is UP, and its keepalive count while its transmitter
is free (R121, R145, R185). -/
def tickPort (b : PortBlock) : PortBlock :=
  { b with
    silence := match b.link with
      | .up => b.silence - 1
      | .down => b.silence
    keepalive := match b.tx with
      | none => b.keepalive - 1
      | some _ => b.keepalive }

/-- One tick of the Time Base: it rises by 1, and every running timer and count loses one tick (R13, R33,
R165). -/
def tick (s : State) : State :=
  { s with
    mgmt.timeBase := s.mgmt.timeBase + 1
    seq.periodTimer := s.seq.periodTimer.map (fun r => r - 1)
    req.slots := s.req.slots.map tickSlot
    portH := tickPort s.portH
    portN := tickPort s.portN }

end Sys2Proof.Machine
end

