-- ==== Sys2Proof/Machine/Management.lean ====
section
/-! DEFINITION. Taking a command: the overflow test, the answer and its counts (R157 to R160, R167), and the
acts that reach every block: hardware reset, RESET and FLUSH (R175 to R177). -/

namespace Sys2Proof.Machine

/-! ### Answers -/

/-- What carrying a command out gives: its status, its result words and the state. -/
structure Answer where
  status  : Status
  results : List Word
  state   : State

/-- The command carried out, answered OK. -/
def answerOk (results : List Word) (s : State) : Answer := { status := .ok, results := results, state := s }

/-- The command refused: nothing changes (R160). -/
def refuse (status : Status) (results : List Word) (s : State) : Answer :=
  { status := status, results := results, state := s }

/-- The counts of a command, taken in the step that queues its response (R167 orders 0 and 2 to 4). -/
def countCommand (status : Status) (c : CmdCounters) : CmdCounters :=
  match status with
  | .ok => { c with taken := c.taken + 1 }
  | .badcmd => { c with taken := c.taken + 1, badcmd := c.badcmd + 1 }
  | .length => { c with taken := c.taken + 1, length := c.length + 1 }
  | .duplicate => { c with taken := c.taken + 1, other := c.other + 1 }
  | .busy => { c with taken := c.taken + 1, other := c.other + 1 }
  | .state => { c with taken := c.taken + 1, other := c.other + 1 }
  | .range => { c with taken := c.taken + 1, other := c.other + 1 }
  | .ahead => { c with taken := c.taken + 1, other := c.other + 1 }

/-- The response joins the back of the Response Queue, and the command is counted (R157, R167). -/
def respond (tag : BitVec 8) (code : Word) (a : Answer) : State :=
  { a.state with
    mgmt.respQ := a.state.mgmt.respQ ++ [{ tag := tag, code := code, status := a.status, results := a.results }]
    mgmt.ctr := countCommand a.status a.state.mgmt.ctr }

/-- The Response Queue has a free place (R157, R159). -/
def hasRoom (s : State) : Bool := decide (s.mgmt.respQ.length < Config.responsePlaces)

/-- A command overflow: no effect but its count (R159). -/
def overflow (s : State) : State := { s with mgmt.ctr.overflows := s.mgmt.ctr.overflows + 1 }

/-- The Management Unit takes a GCMD (R157, R159). -/
def manage (hdr : Header) (code : Word) (body : State → Answer) (s : State) : State :=
  if hasRoom s then respond hdr.tag code (body s) else overflow s

/-- A GCMD arrives at Port H and is taken (R157, R183). -/
def takeCommand (hdr : Header) (code : Nat) (body : State → Answer) : State → Host.Outcome State Fault Refusal :=
  receive .h (manage hdr (natWord code) body)

/-- A command whose payload Length is wrong (R160, R161): no result words. -/
def wrongLength (s : State) : Answer := refuse .length [] s

/-- A command with no parameters (Table 9-2). -/
def noParams (params : List Word) (body : State → Answer) (s : State) : Answer :=
  match params with
  | [] => body s
  | _ => wrongLength s

/-- A command with one parameter word (Table 9-2). -/
def oneParam (params : List Word) (body : Word → State → Answer) (s : State) : Answer :=
  match params with
  | [a] => body a s
  | _ => wrongLength s

/-- A command with two parameter words (Table 9-2). -/
def twoParams (params : List Word) (body : Word → Word → State → Answer) (s : State) : Answer :=
  match params with
  | [a, b] => body a b s
  | _ => wrongLength s

/-! ### Hardware reset -/

/-- The cause RESTART reports: a reset that began at power-on reports POWER, though RST- is taken low during
it (R175). -/
def resetCause (held : Option ResetCause) (cause : ResetCause) : ResetCause :=
  match held with
  | some .power => .power
  | _ => cause

/-- The cause of RESTART after a hardware reset (R175). -/
def restartOf (c : ResetCause) : RestartCause :=
  match c with
  | .power => .power
  | .line => .line

/-- Hardware reset begins: every block takes its values after hardware reset (R25, R45, R62, R81, R104, R106,
R111, R120, R138, R156, R175, R189, Table 5-1). The model's own two fields stay. -/
def enterReset (cause : ResetCause) (s : State) : State :=
  let c := resetCause s.held cause
  { State.reset with
    held := some c
    mgmt := Management.reset (restartOf c)
    choices := s.choices
    pending := s.pending }

/-- The part leaves hardware reset: both keepalive counts start at 10 (R121, R145, R175). -/
def leaveReset (s : State) : State :=
  { s with
    held := none
    portH.keepalive := Config.keepaliveTicks
    portN.keepalive := Config.keepaliveTicks }

/-! ### RESET -/

/-- A port through the RESET command: its counters are cleared, the rest runs on (R189). -/
def portThroughReset (b : PortBlock) : PortBlock := { b with ctr := PortCounters.zero }

/-- A line through the RESET command: it keeps its seen level, which becomes the reference (R129, R138). -/
def lineThroughReset (l : Line) : Line := { l with ref := l.seen }

/-- The RESET command's step: every block at its values after RESET, the links running on, RESTART with
cause COMMAND alone in the Notice Queue (R176, R167). -/
def resetCommand (s : State) : State :=
  { State.reset with
    held := s.held
    portH := portThroughReset s.portH
    portN := portThroughReset s.portN
    trig := { TriggerUnit.reset with lines := s.trig.lines.map lineThroughReset }
    mgmt := { Management.reset .command with ctr := { CmdCounters.reset with resets := 1 } }
    choices := s.choices
    pending := s.pending }

/-- RESET when its place in the Response Queue and its Length are right, else its answer (R159, R160, R176). -/
def manageReset (hdr : Header) (params : List Word) (s : State) : State :=
  match params with
  | [] => if hasRoom s then resetCommand s else overflow s
  | _ => manage hdr (natWord 23) wrongLength s

/-! ### FLUSH -/

/-- The Frame Store is emptied, and its frames counted as flushed (R82). The next frame's words still follow those of
the frame admitted last (R65; DEDUCED, assumption log entry 26). -/
def emptyStore (s : State) : State :=
  let s1 :=
    { s with
      store.frames := []
      store.occupancy := 0
      store.ctr.flushed := addCount s.store.ctr.flushed s.store.frames.length }
  match s1.store.fill with
  | .normal => s1
  | .high => fillFalls s1

/-- The bookmarks, AckedThrough, the LiveCursor and the floor after FLUSH (Table 5-1, R106). -/
def flushPositions (s : State) : State :=
  { s with
    ret.bookmarks := Vector.replicate 8 .free
    ret.ackedThrough := s.store.nextSeq - 1
    del.liveCursor := s.store.nextSeq }

/-- FLUSH, step by step (R177). -/
def flushPart (s : State) : State :=
  let s1 := emptyStore (haltSequencer .flush s)
  let s2 := refloor (endSession .flush (flushPositions s1))
  { s2 with asm.pendingGap := 0, mgmt.ctr.resets := s2.mgmt.ctr.resets + 1 }

end Sys2Proof.Machine
end

