-- ==== Sys2Proof/Machine/Arrivals.lean ====
section
/-! DEFINITION. The meanings of the packets that are no commands: damaged, IDLE, unknown, misrouted and bad
trigger packets (R180 to R184), sample replies (R34 to R36), traffic that passes through (R139, R140), node
events (R148) and soft triggers (R133). -/

namespace Sys2Proof.Machine

/-! ### Discarded and consumed packets -/

/-- PACKET_DAMAGED (R180): counted, and neither sorted nor heard by the link. -/
def execPacketDamaged (port : Port) (run : RxRun) (s : State) : Host.Outcome State Fault Refusal :=
  whenRunning (onlyIf (rxRunDamaged run) (withPort port (countDamaged run))) s

/-- IDLE_RECEIVED (R183 and R184 step 1): whatever its Dest, Src, Tag and payload. -/
def execIdleReceived (port : Port) (_dest : BitVec 5) (_hdr : Header) (_payload : List Word) (s : State) :
    Host.Outcome State Fault Refusal :=
  receive port (withPort port countIdle) s

/-- UNKNOWN_KIND (R182): whatever its Dest. -/
def execUnknownKind (port : Port) (_low : BitVec 2) (_dest : BitVec 5) (_hdr : Header) (_payload : List Word)
    (s : State) : Host.Outcome State Fault Refusal :=
  receive port (withPort port countUnknown) s

/-- PACKET_MISROUTED (R183 and R184 step 5). -/
def execPacketMisrouted (port : Port) (pkt : Packet) (s : State) : Host.Outcome State Fault Refusal :=
  whenRunning
    (onlyIf (decide (sortPacket port pkt = .misrouted))
      (fun t => pump (withPort port countMisrouted (arrive port t)))) s

/-- BAD_TRIGGER (R184): it fires no source. -/
def execBadTrigger (port : Port) (_hdr : Header) (payload : List Word) (s : State) :
    Host.Outcome State Fault Refusal :=
  whenRunning
    (onlyIf (decide (trigCheck payload = none))
      (fun t => pump (withPort port countBadTrigger (arrive port t)))) s

/-! ### Sample replies -/

/-- A stale reply: no slot changes (R34). -/
def staleReply (s : State) : State := { s with req.ctr.staleReplies := s.req.ctr.staleReplies + 1 }

/-- A matched BUSY reply: a retry while attempts made are not above the Retries, else the result BUSY (R36). -/
def busyReply (i : Fin 4) (e : Fin 64) (attempts : Nat) (s : State) : State :=
  let s1 := { s with req.ctr.busyReplies := s.req.ctr.busyReplies + 1 }
  if attempts ≤ s.seq.scanList[e].retries then { s1 with req := retrySlot i e attempts s1.req }
  else afterResult (resolveSlot i e .busy s1)

/-- A matched reply (R36, Table 2-2). -/
def matchedReply (i : Fin 4) (e : Fin 64) (attempts : Nat) (payload : List Word) (s : State) : State :=
  let s1 := { s with req.ctr.matched := s.req.ctr.matched + 1 }
  match classify s.seq.scanList[e] payload with
  | .good samples => afterResult (resolveSlot i e (.ok samples) s1)
  | .malformed => afterResult (resolveSlot i e .malformed s1)
  | .nochan => afterResult (resolveSlot i e .nochan s1)
  | .busy => busyReply i e attempts s1

/-- The Request Table takes an SREP: matched by its Tag alone against the slots in AWAIT, or stale (R34). -/
def takeReply (tag : BitVec 8) (payload : List Word) (s : State) : State :=
  match s.req.slots[tagSlot tag].use with
  | .await e attempts _ =>
    if s.req.slots[tagSlot tag].gen = tagGen tag then matchedReply (tagSlot tag) e attempts payload s
    else staleReply s
  | _ => staleReply s

/-- SREP_RECEIVED (R34). -/
def execSrepReceived (hdr : Header) (payload : List Word) (s : State) : Host.Outcome State Fault Refusal :=
  receive .n (takeReply hdr.tag payload) s

/-! ### Traffic that passes through -/

/-- FORWARD_TO_NODES (R140): a Dest that Port H does not forward to is no such packet. -/
def execForwardToNodes (kind : NodeBound) (dest : BitVec 5) (hdr : Header) (payload : List Word) (s : State) :
    Host.Outcome State Fault Refusal :=
  whenRunning
    (onlyIf (forwardable dest)
      (fun t => pump (offerFqN { kind := nodeBoundKind kind, dest := dest, hdr := hdr, payload := payload }
        (arrive .h t)))) s

/-- FORWARD_TO_HEAD (R139). -/
def execForwardToHead (kind : HeadBound) (hdr : Header) (payload : List Word) (s : State) :
    Host.Outcome State Fault Refusal :=
  receive .n (offerFqH { kind := headBoundKind kind, dest := addrHead, hdr := hdr, payload := payload }) s

/-- NEVT_RECEIVED (R148). -/
def execNevtReceived (hdr : Header) (payload : List Word) (s : State) : Host.Outcome State Fault Refusal :=
  receive .n (takeEvent { kind := kindNEVT, dest := addrHead, hdr := hdr, payload := payload }) s

/-! ### Soft triggers -/

/-- A soft trigger packet is counted by the link it came from (R133, R137). -/
def countSoft (port : Port) (s : State) : State :=
  match port with
  | .h => { s with trig.ctr.fromHead := s.trig.ctr.fromHead + 1 }
  | .n => { s with trig.ctr.fromNodes := s.trig.ctr.fromNodes + 1 }

/-- TRIG_RECEIVED (R133): its soft source fires, whoever sent it. -/
def execTrigReceived (port : Port) (_hdr : Header) (source : SoftSource) (s : State) :
    Host.Outcome State Fault Refusal :=
  receive port (fun t => fireSource (softIndex source) (countSoft port t)) s

end Sys2Proof.Machine
end

