-- ==== Sys2Proof/Machine/CmdItems.lean ====
section
/-! DEFINITION. The meanings of IDENTIFY, GET_ITEM, SET_ITEM, COUNTERS_READ, COUNTERS_CLEAR, FLUSH, RESET, and of
a GCMD with no known command or no place for its response (R157 to R167, R176, R177). -/

namespace Sys2Proof.Machine

/-- IDENTIFY's result: identity and capacities (R162). -/
def identifyResult : List Word :=
  [natWord Config.vendorCode, natWord Config.partCode, natWord Config.revision, 64, 4, natWord Config.indexPlaces]
    ++ natWords Config.poolWords
    ++ [8, 8, 32, natWord Config.fqHPlaces, natWord Config.fqNPlaces, natWord Config.responsePlaces, 8,
        natWord Config.maxPayload]

/-- IDENTIFY (R162). -/
def execIdentify (hdr : Header) (params : List Word) (s : State) : Host.Outcome State Fault Refusal :=
  takeCommand hdr 0 (noParams params (answerOk identifyResult)) s

/-- An item number and an item's value, three words (R163, R192). -/
def itemReport (w : Word) (i : Item) (s : State) : List Word := w :: word32Words (itemValue s.mgmt i)

/-- GET_ITEM's body (R163). -/
def getItemBody (w : Word) (s : State) : Answer :=
  match itemOf w with
  | none => refuse .range [] s
  | some i => answerOk (itemReport w i s) s

/-- GET_ITEM (R163). -/
def execGetItem (hdr : Header) (params : List Word) (s : State) : Host.Outcome State Fault Refusal :=
  takeCommand hdr 1 (oneParam params getItemBody) s

/-- A running silence timer is cut to a lower limit (R186). -/
def cutSilence (limit : Nat) (b : PortBlock) : PortBlock :=
  match b.link with
  | .up => { b with silence := min b.silence limit }
  | .down => b

/-- An accepted write takes effect, and the item's owner acts (R164; R57, R74, R186). -/
def writeItem (i : Item) (v : Word32) (s : State) : State :=
  let s1 := { s with mgmt.items := itemStore i v.toNat s.mgmt.items }
  match i with
  | .time => { s with mgmt.timeBase := v }
  | .admitPolicy => retryAdmission s1
  | .fillHigh => fillReevaluate s1
  | .fillLow => fillReevaluate s1
  | .silenceTime => { s1 with portH := cutSilence v.toNat s1.portH, portN := cutSilence v.toNat s1.portN }
  | _ => s1

/-- The status of a SET_ITEM of a known item: the checks 2 to 4, in order (R164). -/
def itemCheck (i : Item) (v : Word32) (s : State) : Status :=
  if !itemInRange i v.toNat then .range
  else if !itemChangeable i s then .state
  else if !itemThresholdOk i v.toNat s.mgmt.items then .range
  else .ok

/-- SET_ITEM's body: the result gives the item's value after the command (R164). -/
def setItemBody (w : Word) (v : Word32) (s : State) : Answer :=
  match itemOf w with
  | none => refuse .range [] s
  | some i =>
    match itemCheck i v s with
    | .ok =>
      let t := writeItem i v s
      answerOk (itemReport w i t) t
    | status => refuse status (itemReport w i s) s

/-- SET_ITEM's parameters (Table 9-2). -/
def setItemParams (params : List Word) (s : State) : Answer :=
  match params with
  | [w, hi, lo] => setItemBody w (word32Of hi lo) s
  | _ => wrongLength s

/-- SET_ITEM (R164). -/
def execSetItem (hdr : Header) (params : List Word) (s : State) : Host.Outcome State Fault Refusal :=
  takeCommand hdr 2 (setItemParams params) s

/-- COUNTERS_READ's body (R166). -/
def countersReadBody (w : Word) (s : State) : Answer :=
  match groupOf w with
  | none => refuse .range [] s
  | some g => answerOk (w :: natWord (groupCounters g s).length :: (groupCounters g s).flatMap word32Words) s

/-- COUNTERS_READ (R166). -/
def execCountersRead (hdr : Header) (params : List Word) (s : State) : Host.Outcome State Fault Refusal :=
  takeCommand hdr 24 (oneParam params countersReadBody) s

/-- The groups a COUNTERS_CLEAR code names: one, or all with code 15 (R166). -/
def clearedGroups (w : Word) : Option (List Group) :=
  if w.toNat = 15 then some allGroups else (groupOf w).map (fun g => [g])

/-- COUNTERS_CLEAR's body (R166). -/
def countersClearBody (w : Word) (s : State) : Answer :=
  match clearedGroups w with
  | none => refuse .range [] s
  | some gs => answerOk [w] (gs.foldl (fun t g => clearGroup g t) s)

/-- COUNTERS_CLEAR (R166). -/
def execCountersClear (hdr : Header) (params : List Word) (s : State) : Host.Outcome State Fault Refusal :=
  takeCommand hdr 25 (oneParam params countersClearBody) s

/-- FLUSH's body (R177). -/
def flushBody (s : State) : Answer := answerOk [] (flushPart s)

/-- FLUSH (R177). -/
def execFlush (hdr : Header) (params : List Word) (s : State) : Host.Outcome State Fault Refusal :=
  takeCommand hdr 22 (noParams params flushBody) s

/-- RESET (R176): carried out, it queues no response. -/
def execReset (hdr : Header) (params : List Word) (s : State) : Host.Outcome State Fault Refusal :=
  receive .h (manageReset hdr params) s

/-- The command code a response carries for a payload: its first word, or FFFFh when it is empty (R157). -/
def answeredCode (payload : List Word) : Word := payload.headD 0xFFFF#16

/-- UNKNOWN_COMMAND (R160): answered BADCMD. -/
def execUnknownCommand (hdr : Header) (payload : List Word) (s : State) : Host.Outcome State Fault Refusal :=
  whenRunning
    (onlyIf (codeUnknown payload)
      (fun s => pump (manage hdr (answeredCode payload) (refuse .badcmd []) (arrive .h s)))) s

/-- A GCMD arrives and finds the Response Queue full: it is lost (R159). Where its arrival finds a free place,
no overflow occurs and the state is as it was (assumption log entry 2). -/
def overflowArrival (s : State) : State :=
  let t := arrive .h s
  if hasRoom t then s else pump (overflow t)

/-- COMMAND_OVERFLOW (R159): the payload plays no part. -/
def execCommandOverflow (_hdr : Header) (_payload : List Word) (s : State) : Host.Outcome State Fault Refusal :=
  whenRunning overflowArrival s

end Sys2Proof.Machine
end

