-- ==== Sys2Proof/Machine/CmdRetention.lean ====
section
/-! DEFINITION. The meanings of the commands over the stored frames: CREDIT (R105), ACK (R86), MARK_SET,
MARK_CLEAR, MARK_READ (R92 to R94), REPLAY, REPLAY_ABORT (R112, R113, R115) and STORE_STATUS (R79). -/

namespace Sys2Proof.Machine

/-- CREDIT's body (R105): held at 255; the response carries the credit. -/
def creditBody (n : Word) (s : State) : Answer :=
  if 1 ≤ n.toNat ∧ n.toNat ≤ Config.maxCredit then
    let c := min (s.del.credit + n.toNat) Config.maxCredit
    answerOk [natWord c] { s with del.credit := c }
  else refuse .range [natWord s.del.credit] s

/-- CREDIT (R105). -/
def execCredit (hdr : Header) (params : List Word) (s : State) : Host.Outcome State Fault Refusal :=
  takeCommand hdr 13 (oneParam params creditBody) s

/-- The two result fields of ACK: AckedThrough and the floor (R86). -/
def ackReport (s : State) : List Word := word32Words s.ret.ackedThrough ++ word32Words s.ret.floor

/-- The status of ACK(n): the first row of Table 5-2 that applies (R86). -/
def ackStatus (n : SeqNum) (s : State) : Status :=
  match s.mgmt.items.retainMode with
  | .sent => .state
  | .acked =>
    if !issued s.store.nextSeq n || decide (dist s.store.nextSeq n < dist s.store.nextSeq (s.del.liveCursor - 1)) then
      .ahead
    else if dist s.store.nextSeq s.ret.ackedThrough ≤ dist s.store.nextSeq n then .duplicate
    else .ok

/-- ACK's body (R86, R87). -/
def ackBody (hi lo : Word) (s : State) : Answer :=
  match ackStatus (word32Of hi lo) s with
  | .ok =>
    let t := refloor { s with ret.ackedThrough := word32Of hi lo }
    answerOk (ackReport t) t
  | status => refuse status (ackReport s) s

/-- ACK (R86). -/
def execAck (hdr : Header) (params : List Word) (s : State) : Host.Outcome State Fault Refusal :=
  takeCommand hdr 14 (twoParams params ackBody) s

/-- The target MARK_SET names: 0 OLDEST, 1 NEWEST, 2 SEQ, none when no stored frame is named (R92, Table
10-9). -/
def markTarget (kind : Word) (n : SeqNum) (s : State) : Option SeqNum :=
  if s.store.frames = [] then none
  else match kind.toNat with
    | 0 => some (oldestSeq s.store)
    | 1 => some (newestSeq s.store)
    | 2 => if isStored s.store n then some n else none
    | _ => none

/-- MARK_SET's body (R92). -/
def markSetBody (bookmark kind : Word) (n : SeqNum) (s : State) : Answer :=
  match bookmarkOf bookmark, markTarget kind n s with
  | some b, some target =>
    let t := putBookmark b (.set target) s
    answerOk (word32Words target ++ [bookmarkWord s.ret.bookmarks[b]] ++ word32Words t.ret.floor) t
  | _, _ => refuse .range [] s

/-- MARK_SET's parameters (Table 9-2). -/
def markSetParams (params : List Word) (s : State) : Answer :=
  match params with
  | [b, kind, hi, lo] => markSetBody b kind (word32Of hi lo) s
  | _ => wrongLength s

/-- MARK_SET (R92). -/
def execMarkSet (hdr : Header) (params : List Word) (s : State) : Host.Outcome State Fault Refusal :=
  takeCommand hdr 15 (markSetParams params) s

/-- MARK_CLEAR's body (R93). -/
def markClearBody (bookmark : Word) (s : State) : Answer :=
  match bookmarkOf bookmark with
  | none => refuse .range [] s
  | some b =>
    let t := putBookmark b .free s
    answerOk (bookmarkWord s.ret.bookmarks[b] :: word32Words t.ret.floor) t

/-- MARK_CLEAR (R93). -/
def execMarkClear (hdr : Header) (params : List Word) (s : State) : Host.Outcome State Fault Refusal :=
  takeCommand hdr 16 (oneParam params markClearBody) s

/-- A bookmark's state and target (R94). -/
def bookmarkReport (b : Bookmark) : List Word := bookmarkWord b :: word32Words (bookmarkTarget b)

/-- MARK_READ's result (R94). -/
def markReadResult (s : State) : List Word :=
  s.ret.bookmarks.toList.flatMap bookmarkReport ++ word32Words s.ret.ackedThrough ++ word32Words s.ret.floor

/-- MARK_READ (R94). -/
def execMarkRead (hdr : Header) (params : List Word) (s : State) : Host.Outcome State Fault Refusal :=
  takeCommand hdr 17 (noParams params (fun t => answerOk (markReadResult t) t)) s

/-- The four result fields of REPLAY for an ACTIVE session (R112, R113). -/
def sessionReport (x : Session) (sent : Nat) : List Word :=
  word32Words x.cursor ++ word32Words x.last ++ [natWord x.frames, natWord sent]

/-- The result of a REPLAY refused with no session to report: the same fields, all 0 (R112). -/
def noSession : List Word := [0, 0, 0, 0, 0, 0]

/-- Row 2 of Table 6-1 does not apply: kind, bookmark number and count in range (R112). -/
def replayInRange (kind bookmark count : Nat) : Bool :=
  decide (kind ≤ 2 ∧ (kind = 0 → bookmark ≤ 7) ∧ count ≤ 1024)

/-- The target of a bookmark number, when that bookmark is SET (R112 row 4). -/
def bookmarkStart (bookmark : Word) (s : State) : Option SeqNum :=
  match bookmarkOf bookmark with
  | none => none
  | some b => bookmarkCandidate s.ret.bookmarks[b]

/-- The start frame of a session, when row 4 of Table 6-1 lets one be named (R112, R113): 0 BOOKMARK, 1
OLDEST, 2 SEQ. -/
def replayStart (kind bookmark : Word) (n : SeqNum) (s : State) : Option SeqNum :=
  match kind.toNat with
  | 0 => bookmarkStart bookmark s
  | 1 => some (oldestSeq s.store)
  | _ => if isStored s.store n then some n else none

/-- The session that opens at a start with a count (R113 steps 1 and 2). -/
def openedSession (start : SeqNum) (count : Nat) (s : State) : Session :=
  let d := dist s.store.nextSeq start
  let last := if count = 0 ∨ d ≤ count then newestSeq s.store else start + BitVec.ofNat 32 count - 1
  { cursor := start, last := last, frames := d - dist s.store.nextSeq last + 1 }

/-- The session opens (R113 steps 3 to 5). -/
def openSession (x : Session) (s : State) : State :=
  refloor
    { s with
      del.session := some x
      del.framesSent := 0
      del.ctr.opened := s.del.ctr.opened + 1 }

/-- REPLAY's body: the first row of Table 6-1 that applies (R112, R113). -/
def replayBody (kind bookmark : Word) (n : SeqNum) (count : Word) (s : State) : Answer :=
  match s.del.session with
  | some x => refuse .busy (sessionReport x s.del.framesSent) s
  | none =>
    if !replayInRange kind.toNat bookmark.toNat count.toNat then refuse .range noSession s
    else if s.store.frames = [] then refuse .state noSession s
    else match replayStart kind bookmark n s with
      | none => refuse .range noSession s
      | some start =>
        let x := openedSession start count.toNat s
        answerOk (sessionReport x 0) (openSession x s)

/-- REPLAY's parameters (Table 9-2). -/
def replayParams (params : List Word) (s : State) : Answer :=
  match params with
  | [kind, bookmark, hi, lo, count] => replayBody kind bookmark (word32Of hi lo) count s
  | _ => wrongLength s

/-- REPLAY (R112). -/
def execReplay (hdr : Header) (params : List Word) (s : State) : Host.Outcome State Fault Refusal :=
  takeCommand hdr 18 (replayParams params) s

/-- REPLAY_ABORT's body (R115). -/
def replayAbortBody (s : State) : Answer :=
  match s.del.session with
  | none => refuse .state [natWord s.del.framesSent] s
  | some _ => answerOk [natWord s.del.framesSent] (endSession .abort s)

/-- REPLAY_ABORT (R115). -/
def execReplayAbort (hdr : Header) (params : List Word) (s : State) : Host.Outcome State Fault Refusal :=
  takeCommand hdr 19 (noParams params replayAbortBody) s

/-- The Seq of the oldest and of the newest frame, 0 and 0 when the store is empty (Table 4-3 orders 4 and
5). -/
def endsReport (st : FrameStore) : List Word :=
  match st.frames with
  | [] => [0, 0, 0, 0]
  | _ => word32Words (oldestSeq st) ++ word32Words (newestSeq st)

/-- STORE_STATUS's result (Table 4-3). -/
def storeStatusResult (s : State) : List Word :=
  [boolWord s.store.frames.isEmpty, natWord s.store.frames.length] ++ natWords s.store.occupancy
    ++ endsReport s.store ++ word32Words s.store.nextSeq ++ word32Words s.del.liveCursor
    ++ word32Words s.ret.ackedThrough
    ++ [fillWord s.store.fill, retainWord s.mgmt.items.retainMode, boolWord s.del.session.isSome]

/-- STORE_STATUS (R79). -/
def execStoreStatus (hdr : Header) (params : List Word) (s : State) : Host.Outcome State Fault Refusal :=
  takeCommand hdr 20 (noParams params (fun t => answerOk (storeStatusResult t) t)) s

end Sys2Proof.Machine
end

