-- ==== Sys2Proof/Machine/CmdSequencer.lean ====
section
/-! DEFINITION. The meanings of the sequencer's commands: ARM (R17), STOP (R18), HALT (R19), SWEEP_NOW (R10) and
SEQ_STATUS (R23, R43). -/

namespace Sys2Proof.Machine

/-- ARM's body (R17): a Now other than 0 or 1 is refused with RANGE, then the state, then the range of R4. -/
def armBody (now : Word) (s : State) : Answer :=
  if 1 < now.toNat then refuse .range [] s
  else if s.seq.st ≠ .idle then refuse .state [] s
  else if !rangeArmable s then refuse .range [] s
  else answerOk [] (armWith (decide (now.toNat = 1)) s)

/-- ARM (R17). -/
def execArm (hdr : Header) (params : List Word) (s : State) : Host.Outcome State Fault Refusal :=
  takeCommand hdr 9 (oneParam params armBody) s

/-- STOP's body (R18): answered OK in every state. -/
def stopBody (s : State) : Answer := answerOk [] (stopSequencer s)

/-- STOP (R18). -/
def execStop (hdr : Header) (params : List Word) (s : State) : Host.Outcome State Fault Refusal :=
  takeCommand hdr 10 (noParams params stopBody) s

/-- HALT's body (R19): answered OK in every state. -/
def haltBody (s : State) : Answer := answerOk [] (haltSequencer .halt s)

/-- HALT (R19). -/
def execHalt (hdr : Header) (params : List Word) (s : State) : Host.Outcome State Fault Refusal :=
  takeCommand hdr 11 (noParams params haltBody) s

/-- SWEEP_NOW's body (R10). -/
def sweepNowBody (s : State) : Answer :=
  match s.seq.st with
  | .idle => refuse .state [] s
  | _ => answerOk [dispositionWord (deliverStart .command s).1] (deliverStart .command s).2

/-- SWEEP_NOW (R10). -/
def execSweepNow (hdr : Header) (params : List Word) (s : State) : Host.Outcome State Fault Refusal :=
  takeCommand hdr 12 (noParams params sweepNowBody) s

/-- The mode in force: the arming's, or SWEEP_MODE when IDLE (R23 field 2). -/
def modeInForce (s : State) : SweepMode :=
  match s.seq.st with
  | .idle => s.mgmt.items.sweepMode
  | _ => s.seq.mode

/-- The period timer field: stopped or running, then the remaining ticks, 0 when stopped or with
SWEEP_PERIOD 0 (R23 field 6, Table 10-9). -/
def timerWords (s : State) : List Word :=
  match s.seq.periodTimer with
  | none => [0, 0]
  | some r => [1, if s.seq.period = 0 then 0 else natWord r]

/-- The included entries of the current sweep and those with a result, 0 and 0 without a frame under
assembly (R23 field 7). -/
def progressWords (s : State) : List Word :=
  match s.asm.current with
  | none => [0, 0]
  | some a => [natWord a.included.length, natWord a.frame.slots.length]

/-- SEQ_STATUS's result (R23, R43). -/
def seqStatusResult (s : State) : List Word :=
  [seqStateWord s.seq.st, modeWord (modeInForce s), boolWord s.seq.stopPending]
    ++ word32Words s.seq.sweepNo ++ [latchWord s.seq.latch] ++ timerWords s ++ progressWords s
    ++ s.req.slots.toList.flatMap slotReport ++ [linkWord s.portH.link, linkWord s.portN.link]

/-- SEQ_STATUS (R23). -/
def execSeqStatus (hdr : Header) (params : List Word) (s : State) : Host.Outcome State Fault Refusal :=
  takeCommand hdr 21 (noParams params (fun t => answerOk (seqStatusResult t) t)) s

end Sys2Proof.Machine
end

