-- ==== Sys2Proof/Machine/CmdTables.lean ====
section
/-! DEFINITION. The meanings of the commands over the three tables: SCAN_WRITE, SCAN_READ (R2, R3), EVENT_WRITE,
EVENT_READ (R152, R153), TMAP_WRITE and TMAP_READ (R126, R127). -/

namespace Sys2Proof.Machine

/-- The Scan List with a run of entries written from place `i` on (R2). -/
def writeRun (i : Nat) (es : List ScanEntry) (v : Vector ScanEntry 64) : Vector ScanEntry 64 :=
  match es with
  | [] => v
  | e :: rest => writeRun (i + 1) rest (if h : i < 64 then v.set i e h else v)

/-- SCAN_WRITE's own checks and effect (R2): IDLE first, then the ranges. -/
def scanWriteBody (first count : Nat) (records : List Word) (s : State) : Answer :=
  if s.seq.st ≠ .idle then refuse .state [] s
  else if !runFits 64 first count then refuse .range [] s
  else match scanRecords count records with
    | none => refuse .range [] s
    | some es => answerOk [] { s with seq.scanList := writeRun first es s.seq.scanList }

/-- SCAN_WRITE's parameters: the Length agrees with the Entry Count (R161). -/
def scanWriteParams (params : List Word) (s : State) : Answer :=
  match params with
  | first :: count :: records =>
    if records.length = 7 * count.toNat then scanWriteBody first.toNat count.toNat records s else wrongLength s
  | _ => wrongLength s

/-- SCAN_WRITE (R2). -/
def execScanWrite (hdr : Header) (params : List Word) (s : State) : Host.Outcome State Fault Refusal :=
  takeCommand hdr 3 (scanWriteParams params) s

/-- SCAN_READ's body (R3). -/
def scanReadBody (first count : Word) (s : State) : Answer :=
  if runFits 64 first.toNat count.toNat then
    answerOk (((s.seq.scanList.toList.drop first.toNat).take count.toNat).flatMap scanEntryWords) s
  else refuse .range [] s

/-- SCAN_READ (R3). -/
def execScanRead (hdr : Header) (params : List Word) (s : State) : Host.Outcome State Fault Refusal :=
  takeCommand hdr 4 (twoParams params scanReadBody) s

/-- EVENT_WRITE's body (R152): the entry's hit count keeps its value. -/
def eventWriteParams (params : List Word) (s : State) : Answer :=
  match params with
  | [idx, en, node, code, mask, verdict, trigger, mark] =>
    if h : idx.toNat < 32 then
      match eventEntryOf en node code mask verdict trigger mark s.fwd.table[idx.toNat].hits with
      | none => refuse .range [] s
      | some e => answerOk [] { s with fwd.table := setAt s.fwd.table ⟨idx.toNat, h⟩ e }
    else refuse .range [] s
  | _ => wrongLength s

/-- EVENT_WRITE (R152). -/
def execEventWrite (hdr : Header) (params : List Word) (s : State) : Host.Outcome State Fault Refusal :=
  takeCommand hdr 5 (eventWriteParams params) s

/-- EVENT_READ's body (R153): the records, EVENT_DEFAULT and the default hit count. -/
def eventReadBody (first count : Word) (s : State) : Answer :=
  if runFits 32 first.toNat count.toNat then
    answerOk
      (((s.fwd.table.toList.drop first.toNat).take count.toNat).flatMap eventEntryWords
        ++ [verdictWord s.mgmt.items.eventDefault, s.fwd.defaultHits]) s
  else refuse .range [] s

/-- EVENT_READ (R153). -/
def execEventRead (hdr : Header) (params : List Word) (s : State) : Host.Outcome State Fault Refusal :=
  takeCommand hdr 6 (twoParams params eventReadBody) s

/-- The Trigger Map with an entry written (R126). -/
def writeTrigEntry (i : Fin 8) (e : TrigEntry) (s : State) : State := { s with trig.map := setAt s.trig.map i e }

/-- The edge detector of a line takes the line's seen level as its reference (R126, R129). -/
def resetReference (i : Fin 4) (s : State) : State :=
  { s with trig.lines := setAt s.trig.lines i (Line.mk s.trig.lines[i].seen s.trig.lines[i].seen) }

/-- TMAP_WRITE's effect: the entry, and for a line source the edge reference and the offer of a gate found
open (R126, R131). -/
def tmapStore (i : Fin 8) (e : TrigEntry) (s : State) : State :=
  if h : i.val < 4 then
    let line : Fin 4 := ⟨i.val, h⟩
    let s1 := resetReference line (writeTrigEntry i e s)
    if gateOpen s1 line then offerLevel line s1 else s1
  else writeTrigEntry i e s

/-- TMAP_WRITE's parameters and checks (R126). -/
def tmapWriteParams (params : List Word) (s : State) : Answer :=
  match params with
  | [source, detection, action, bookmark] =>
    match trigEntryOf source detection action bookmark with
    | none => refuse .range [] s
    | some (i, e) => answerOk [] (tmapStore i e s)
  | _ => wrongLength s

/-- TMAP_WRITE (R126). -/
def execTmapWrite (hdr : Header) (params : List Word) (s : State) : Host.Outcome State Fault Refusal :=
  takeCommand hdr 7 (tmapWriteParams params) s

/-- TMAP_READ's result: eight records, then the four seen levels (R127). -/
def tmapReadResult (s : State) : List Word :=
  s.trig.map.toList.flatMap trigEntryWords ++ s.trig.lines.toList.map (fun l => seenWord l.seen)

/-- TMAP_READ (R127). -/
def execTmapRead (hdr : Header) (params : List Word) (s : State) : Host.Outcome State Fault Refusal :=
  takeCommand hdr 8 (noParams params (fun t => answerOk (tmapReadResult t) t)) s

end Sys2Proof.Machine
end

