-- ==== Sys2Proof/Machine/Events.lean ====
section
/-! DEFINITION. The meanings of the events that are no packets: hardware reset (R175), the tick and the expiries
(R13, R33, R37, R165, R185), the transmitters (R118, R121, R144, R145), the trigger lines (R128 to R131) and
RELEASE (R76). -/

namespace Sys2Proof.Machine

/-- An event acts, and then both transmitters take what waits. -/
def happen (f : State → State) : State → Host.Outcome State Fault Refusal := whenRunning (fun s => pump (f s))

/-! ### Hardware reset -/

/-- HARDWARE_RESET (R175). -/
def execHardwareReset (cause : ResetCause) (s : State) : Host.Outcome State Fault Refusal := .next (enterReset cause s)

/-- LEAVE_HARDWARE_RESET (R175): a part that is not held has nothing to leave (assumption log entry 2). -/
def execLeaveHardwareReset (s : State) : Host.Outcome State Fault Refusal :=
  .next (if s.held.isSome then leaveReset s else s)

/-! ### Time -/

/-- TIME_BASE_TICK (R165). -/
def execTimeBaseTick (s : State) : Host.Outcome State Fault Refusal := whenRunning tick s

/-- A slot's timer has expired: a retry while attempts made are not above the Retries, else TIMEOUT (R37). -/
def expireSlot (i : Fin 4) (s : State) : State :=
  match s.req.slots[i].use with
  | .await e attempts 0 =>
    let s1 := { s with req.ctr.timerExpiries := s.req.ctr.timerExpiries + 1 }
    if attempts ≤ s.seq.scanList[e].retries then { s1 with req := retrySlot i e attempts s1.req }
    else afterResult (resolveSlot i e .timeout s1)
  | _ => s

/-- SLOT_TIMER_EXPIRY (R37): taken when the slot's timer stands at 0. -/
def execSlotTimerExpiry (slot : Fin 4) (s : State) : Host.Outcome State Fault Refusal := happen (expireSlot slot) s

/-- The period timer has expired: it reloads, and a PERIOD start is delivered (R13). -/
def expirePeriod (s : State) : State :=
  if s.seq.periodTimer = some 0 ∧ s.seq.period ≠ 0 then
    (deliverStart .period { s with seq.periodTimer := some s.seq.period }).2
  else s

/-- PERIOD_TIMER_EXPIRY (R13): taken when the timer runs and stands at 0 with a SWEEP_PERIOD above 0. -/
def execPeriodTimerExpiry (s : State) : Host.Outcome State Fault Refusal := happen expirePeriod s

/-- A port's silence timer has run out (R185). -/
def silenceOut (b : PortBlock) : Bool := decide (b.link = .up ∧ b.silence = 0)

/-- H_SILENCE_EXPIRY (R185, R187): taken when the H link is UP and its silence timer stands at 0. -/
def execHSilenceExpiry (s : State) : Host.Outcome State Fault Refusal :=
  happen (fun t => onlyIf (silenceOut t.portH) linkDownH t) s

/-- N_SILENCE_EXPIRY (R185, R187): taken when the N link is UP and its silence timer stands at 0. -/
def execNSilenceExpiry (s : State) : Host.Outcome State Fault Refusal :=
  happen (fun t => onlyIf (silenceOut t.portN) linkDownN t) s

/-! ### Transmitters -/

/-- H_TRANSMISSION_END (R118): the packet in transmission ends, and the arbiter takes the next. -/
def execHTransmissionEnd (s : State) : Host.Outcome State Fault Refusal :=
  happen (fun t => onlyIf t.portH.tx.isSome (withPort .h endPacket) t) s

/-- N_TRANSMISSION_END (R144): the packet in transmission ends, and the next is taken in turn. -/
def execNTransmissionEnd (s : State) : Host.Outcome State Fault Refusal :=
  happen (fun t => onlyIf t.portN.tx.isSome (withPort .n endPacket) t) s

/-- H_KEEPALIVE_EXPIRY (R121): with the count at 0 and no packet waiting, an IDLE packet begins; a packet that
waits is taken instead. -/
def execHKeepaliveExpiry (s : State) : Host.Outcome State Fault Refusal := whenRunning (fun t => keepaliveH (pump t)) s

/-- N_KEEPALIVE_EXPIRY (R145): with the count at 0 and no packet waiting, an IDLE packet begins; a packet that
waits is taken instead. -/
def execNKeepaliveExpiry (s : State) : Host.Outcome State Fault Refusal := whenRunning (fun t => keepaliveN (pump t)) s

/-! ### Trigger lines -/

/-- A line takes a seen level, which is also its edge detector's reference (R128, R129). -/
def setLevel (i : Fin 4) (l : Level) (s : State) : State :=
  { s with trig.lines := setAt s.trig.lines i (Line.mk (some l) (some l)) }

/-- The Detection names this edge: RISE to high, FALL to low (R130). -/
def edgeSelected (d : Detection) (l : Level) : Bool :=
  match d with
  | .rise => decide (l = .high)
  | .fall => decide (l = .low)
  | _ => false

/-- A line edge: an edge source whose sense it is fires (R129, R130). -/
def lineEdge (i : Fin 4) (l : Level) (s : State) : State :=
  if edgeSelected (lineEntry s i).detection l then fireSource (lineSource i) s else s

/-- A level source whose gate has opened offers a start (R131). -/
def gateOffer (i : Fin 4) (s : State) : State := if gateOpen s i then offerLevel i s else s

/-- The seen level of a line changes, or the line takes its first (R128, R129, R131): the first seen level is
no edge, the level already seen is no change, and a change that a TMAP_WRITE of the line took into its reference is
no edge either (R126; assumption log entries 21 and 25). -/
def changeLevel (i : Fin 4) (l : Level) (timing : ChangeTiming) (s : State) : State :=
  if s.trig.lines[i].seen = some l then s
  else if s.trig.lines[i].ref = none ∨ s.trig.lines[i].ref = some l ∨ timing = .withWrite then
    gateOffer i (setLevel i l s)
  else gateOffer i (lineEdge i l (setLevel i l s))

/-- SEEN_LEVEL_CHANGE (R128). -/
def execSeenLevelChange (line : Fin 4) (change : LevelChange) (s : State) : Host.Outcome State Fault Refusal :=
  happen (changeLevel line change.level change.timing) s

/-! ### Release -/

/-- One release of a run: the floor is taken afresh, and when the test passes the oldest frame goes and a held
frame meets an admission attempt (R75, R76, R77, R56). -/
def releaseOne (s : State) : State :=
  let s1 := refloor s
  if releaseTest s1 then retryAdmission (releaseOldest s1) else s1

/-- RELEASE (R76). -/
def execRelease (s : State) : Host.Outcome State Fault Refusal := happen releaseOne s

end Sys2Proof.Machine
end

