-- ==== Sys2Proof/Machine/Dispatch.lean ====
section
/-! DEFINITION. The meaning of each command: one arm for each constructor of Instr. -/

namespace Sys2Proof.Machine

def exec (i : Instr) (s : State) : Host.Outcome State Fault Refusal :=
  match i with
  | .hardwareReset cause => Sys2Proof.Machine.execHardwareReset cause s
  | .identify hdr params => Sys2Proof.Machine.execIdentify hdr params s
  | .getItem hdr params => Sys2Proof.Machine.execGetItem hdr params s
  | .setItem hdr params => Sys2Proof.Machine.execSetItem hdr params s
  | .scanWrite hdr params => Sys2Proof.Machine.execScanWrite hdr params s
  | .scanRead hdr params => Sys2Proof.Machine.execScanRead hdr params s
  | .eventWrite hdr params => Sys2Proof.Machine.execEventWrite hdr params s
  | .eventRead hdr params => Sys2Proof.Machine.execEventRead hdr params s
  | .tmapWrite hdr params => Sys2Proof.Machine.execTmapWrite hdr params s
  | .tmapRead hdr params => Sys2Proof.Machine.execTmapRead hdr params s
  | .arm hdr params => Sys2Proof.Machine.execArm hdr params s
  | .stop hdr params => Sys2Proof.Machine.execStop hdr params s
  | .halt hdr params => Sys2Proof.Machine.execHalt hdr params s
  | .sweepNow hdr params => Sys2Proof.Machine.execSweepNow hdr params s
  | .credit hdr params => Sys2Proof.Machine.execCredit hdr params s
  | .ack hdr params => Sys2Proof.Machine.execAck hdr params s
  | .markSet hdr params => Sys2Proof.Machine.execMarkSet hdr params s
  | .markClear hdr params => Sys2Proof.Machine.execMarkClear hdr params s
  | .markRead hdr params => Sys2Proof.Machine.execMarkRead hdr params s
  | .replay hdr params => Sys2Proof.Machine.execReplay hdr params s
  | .replayAbort hdr params => Sys2Proof.Machine.execReplayAbort hdr params s
  | .storeStatus hdr params => Sys2Proof.Machine.execStoreStatus hdr params s
  | .seqStatus hdr params => Sys2Proof.Machine.execSeqStatus hdr params s
  | .flush hdr params => Sys2Proof.Machine.execFlush hdr params s
  | .reset hdr params => Sys2Proof.Machine.execReset hdr params s
  | .countersRead hdr params => Sys2Proof.Machine.execCountersRead hdr params s
  | .countersClear hdr params => Sys2Proof.Machine.execCountersClear hdr params s
  | .unknownCommand hdr payload => Sys2Proof.Machine.execUnknownCommand hdr payload s
  | .commandOverflow hdr payload => Sys2Proof.Machine.execCommandOverflow hdr payload s
  | .packetDamaged port run => Sys2Proof.Machine.execPacketDamaged port run s
  | .idleReceived port dest hdr payload => Sys2Proof.Machine.execIdleReceived port dest hdr payload s
  | .unknownKind port low dest hdr payload => Sys2Proof.Machine.execUnknownKind port low dest hdr payload s
  | .packetMisrouted port pkt => Sys2Proof.Machine.execPacketMisrouted port pkt s
  | .badTrigger port hdr payload => Sys2Proof.Machine.execBadTrigger port hdr payload s
  | .srepReceived hdr payload => Sys2Proof.Machine.execSrepReceived hdr payload s
  | .slotTimerExpiry slot => Sys2Proof.Machine.execSlotTimerExpiry slot s
  | .periodTimerExpiry => Sys2Proof.Machine.execPeriodTimerExpiry s
  | .hSilenceExpiry => Sys2Proof.Machine.execHSilenceExpiry s
  | .nSilenceExpiry => Sys2Proof.Machine.execNSilenceExpiry s
  | .hTransmissionEnd => Sys2Proof.Machine.execHTransmissionEnd s
  | .hKeepaliveExpiry => Sys2Proof.Machine.execHKeepaliveExpiry s
  | .nTransmissionEnd => Sys2Proof.Machine.execNTransmissionEnd s
  | .nKeepaliveExpiry => Sys2Proof.Machine.execNKeepaliveExpiry s
  | .forwardToNodes kind dest hdr payload => Sys2Proof.Machine.execForwardToNodes kind dest hdr payload s
  | .forwardToHead kind hdr payload => Sys2Proof.Machine.execForwardToHead kind hdr payload s
  | .nevtReceived hdr payload => Sys2Proof.Machine.execNevtReceived hdr payload s
  | .trigReceived port hdr source => Sys2Proof.Machine.execTrigReceived port hdr source s
  | .seenLevelChange line change => Sys2Proof.Machine.execSeenLevelChange line change s
  | .release => Sys2Proof.Machine.execRelease s
  | .timeBaseTick => Sys2Proof.Machine.execTimeBaseTick s
  | .leaveHardwareReset => Sys2Proof.Machine.execLeaveHardwareReset s

end Sys2Proof.Machine
end

