-- ==== Sys2Proof/Safety.lean ====
section
/-! DEFINITION. The laws of the part (spec/00_scope.md 0.8): what holds at every moment of a run. Each law is a
property of one state; the statements of Certificates say that every step keeps it. -/

namespace Sys2Proof.Machine

/-! ### The store (R65, R66) -/

/-- R66: frames oldest first with consecutive numbers that end at NextSeq − 1, at most 1,024 of them, and an
occupancy that is the sum of their lengths and at most 65,536. R65: the words of each frame follow those of the frame
before it, so that a frame begins as many places before the next frame's first place as it and the newer frames have
words. -/
def StoreLaw (s : State) : Prop :=
  s.store.frames.length ≤ Config.indexPlaces
    ∧ (∀ i, ∀ h : i < s.store.frames.length,
        s.store.frames[i].seq = s.store.nextSeq - BitVec.ofNat 32 (s.store.frames.length - i))
    ∧ s.store.occupancy = totalLength s.store.frames
    ∧ s.store.occupancy ≤ Config.poolWords
    ∧ (∀ i, ∀ h : i < s.store.frames.length,
        s.store.frames[i].place = s.store.poolNext - BitVec.ofNat 16 (totalLength (s.store.frames.drop i)))

/-! ### Positions and claims (R85, R91, R106, R111, R89) -/

/-- R85, R106: the LiveCursor stands as stored or next, and AckedThrough is never newer than LiveCursor − 1 and
stands at a distance of at most the frame count plus 1; in SENT mode it is LiveCursor − 1. -/
def PositionLaw (s : State) : Prop :=
  dist s.store.nextSeq s.del.liveCursor ≤ s.store.frames.length
    ∧ dist s.store.nextSeq s.del.liveCursor + 1 ≤ dist s.store.nextSeq s.ret.ackedThrough
    ∧ dist s.store.nextSeq s.ret.ackedThrough ≤ s.store.frames.length + 1
    ∧ (s.mgmt.items.retainMode = .sent → s.ret.ackedThrough = s.del.liveCursor - 1)

/-- R91, R111, R89: every SET bookmark names a stored frame; the cursor of an ACTIVE session names a stored frame
that is not newer than the session's end, which is stored; and the floor held is the oldest candidate. -/
def ClaimLaw (s : State) : Prop :=
  (s.ret.bookmarks.toList.filterMap bookmarkCandidate).all (isStored s.store) = true
    ∧ (∀ x ∈ s.del.session,
        isStored s.store x.cursor = true ∧ isStored s.store x.last = true
          ∧ dist s.store.nextSeq x.last ≤ dist s.store.nextSeq x.cursor)
    ∧ s.ret.floor = floorOf s

/-- The laws of the frame path together: each needs the others to be kept. -/
def FramePathLaw (s : State) : Prop := StoreLaw s ∧ PositionLaw s ∧ ClaimLaw s

/-! ### Queues and credit (R104, R139, R158, R169) -/

/-- R139, R158, R169: FQ-H holds at most 16 packets, FQ-N at most 8, the Response Queue at most four responses, and
the Notice Queue at most one notice of each kind. -/
def QueueLaw (s : State) : Prop :=
  s.fwd.fqH.length ≤ Config.fqHPlaces
    ∧ s.fwd.fqN.length ≤ Config.fqNPlaces
    ∧ s.mgmt.respQ.length ≤ Config.responsePlaces
    ∧ (s.mgmt.noticeQ.map (fun n => noticeKind n.body)).Nodup

/-- R104: the credit stays between 0 and 255. -/
def CreditLaw (s : State) : Prop := s.del.credit ≤ Config.maxCredit

/-! ### The sequencer and the request slots (Table 1-2, R28, R31) -/

/-- The entries of a list of frame slots, in the slots' order (R49). -/
def slotEntries (xs : List FrameSlot) : List (Fin 64) := xs.map FrameSlot.entry

/-- The entries that still have no result: those of the busy slots, those available, those not yet made available
(R29, R46). -/
def outstanding (s : State) : List (Fin 64) := busyEntries s.req ++ s.seq.available ++ s.seq.remaining

/-- A frame is under assembly and collecting: its included entries are those that have a result and those still to
come, each once; the ones not yet issued stand ascending; and in STEP mode one entry at most is being carried out
(R28, R29, R46). -/
def Collecting (s : State) : Prop :=
  ∃ a ∈ s.asm.current, a.complete = false
    ∧ (slotEntries a.frame.slots ++ outstanding s).Perm a.included
    ∧ (s.seq.available ++ s.seq.remaining).Pairwise (· < ·)
    ∧ (s.seq.mode = .step → busyCount s.req + s.seq.available.length ≤ 1)

/-- R46, R49: the included entries of the frame under assembly are those of its sweep (R5), and its slots stand in
ascending entry order, one for each entry at most and only for included entries. -/
def AssemblyLaw (s : State) : Prop :=
  ∀ a ∈ s.asm.current,
    a.included = includedEntries s a.frame.sweepNo
      ∧ (slotEntries a.frame.slots).Pairwise (· < ·)
      ∧ ∀ e ∈ slotEntries a.frame.slots, e ∈ a.included

/-- R28: the busy slots never exceed the MAX_OUTSTANDING of the arming, no two busy slots carry the same tag, and a
slot is busy only while the sequencer is in SWEEP. -/
def SlotLaw (s : State) : Prop :=
  busyCount s.req ≤ s.seq.maxOut
    ∧ (∀ i j : Fin 4, slotFree s.req.slots[i] = false → slotFree s.req.slots[j] = false →
        slotTag i s.req.slots[i].gen = slotTag j s.req.slots[j].gen → i = j)
    ∧ (s.seq.st ≠ .sweep → busyCount s.req = 0)

/-- Table 1-2 and Table 1-3: in each state, whether there is a frame under assembly, which state the N link is in and
where stop-pending must be clear. -/
def SequencerLaw (s : State) : Prop :=
    (match s.seq.st with
      | .idle => s.asm.current = none ∧ s.seq.stopPending = false ∧ s.seq.latch = none ∧ s.seq.periodTimer = none
      | .waitStart => s.asm.current = none ∧ s.seq.stopPending = false ∧ s.portN.link = .up
      | .sweep => Collecting s ∧ s.portN.link = .up
      | .stepPause =>
        Collecting s ∧ s.seq.mode = .step ∧ s.seq.available = [] ∧ s.seq.stopPending = false ∧ s.portN.link = .up
      | .admitWait => ∃ a ∈ s.asm.current, a.complete = true
      | .linkWait => s.asm.current = none ∧ s.seq.stopPending = false ∧ s.portN.link = .down)

/-- The slot is in QUEUED (R27). -/
def slotQueued (x : Slot) : Bool :=
  match x.use with
  | .queued _ _ => true
  | _ => false

/-- R27, R31: the request queue holds the slots in QUEUED state, each once. -/
def RequestQueueLaw (s : State) : Prop :=
  (requestQueue s.req).Nodup ∧ ∀ i : Fin 4, i ∈ requestQueue s.req ↔ slotQueued s.req.slots[i] = true

/-! ### The tables (R1, R74, R125, R146, Table 9-3) -/

/-- Every field of a Scan List entry lies in its range (Table 1-1). -/
def entryInRange (e : ScanEntry) : Bool :=
  isNodeAddr e.node && decide (1 ≤ e.count ∧ e.count ≤ 16) && decide (1 ≤ e.divisor ∧ e.divisor ≤ 255)
    && decide (1 ≤ e.timeout ∧ e.timeout ≤ 255) && decide (e.retries ≤ 3)

/-- A Trigger Map entry is one that TMAP_WRITE accepts for its source (Table 7-2, R125). -/
def trigEntryLegal (i : Fin 8) (e : TrigEntry) : Bool :=
  if i.val < 4 then legalPairing e.detection e.action else decide (e.detection = .rise)

/-- Every item lies in its range, and FILL_LOW is less than FILL_HIGH (Table 9-3, R74). -/
def itemsInRange (t : Items) : Bool :=
  decide (t.firstEntry ≤ 63) && decide (t.lastEntry ≤ 63) && decide (t.sweepPeriod ≤ 65535)
    && decide (1 ≤ t.maxOutstanding ∧ t.maxOutstanding ≤ 4) && decide (1 ≤ t.fillHigh ∧ t.fillHigh ≤ 65536)
    && decide (t.fillLow < t.fillHigh) && decide (t.markPre ≤ 255)
    && decide (32 ≤ t.silenceTime ∧ t.silenceTime ≤ 65535)

/-- R1, R74, R125, R146: the tables and the items hold values from their ranges. -/
def TableLaw (s : State) : Prop :=
  (∀ i : Fin 64, entryInRange s.seq.scanList[i] = true)
    ∧ (∀ i : Fin 8, trigEntryLegal i s.trig.map[i] = true)
    ∧ (∀ i : Fin 32, s.fwd.table[i].node.toNat ≤ 29)
    ∧ itemsInRange s.mgmt.items = true

/-! ### The links (R122, R123, R142, R145, R158, R185) -/

/-- The packet in transmission, if any, is an IDLE packet. -/
def sendsIdleOnly (b : PortBlock) : Prop := ∀ p ∈ b.tx, p.kind = kindIDLE

/-- R122, R123, R142, R158, R185: while the H link is DOWN its silence timer is stopped (at 0: log entry 22), its
transmitter sends IDLE packets only, the credit is 0, no session is ACTIVE, and the Response Queue and FQ-H are
empty. -/
def HeadDownLaw (s : State) : Prop :=
  s.portH.link = .down →
    s.portH.silence = 0 ∧ sendsIdleOnly s.portH ∧ s.del.credit = 0 ∧ s.del.session = none ∧ s.mgmt.respQ = []
      ∧ s.fwd.fqH = []

/-- R41, R142, R145, R185: while the N link is DOWN its silence timer is stopped (at 0: log entry 22), its
transmitter sends IDLE packets only, and the request queue and FQ-N are empty. -/
def NodeDownLaw (s : State) : Prop :=
  s.portN.link = .down →
    s.portN.silence = 0 ∧ sendsIdleOnly s.portN ∧ requestQueue s.req = [] ∧ s.fwd.fqN = []

/-- The laws of the request path together: each needs the others to be kept. -/
def RequestPathLaw (s : State) : Prop :=
  SlotLaw s ∧ SequencerLaw s ∧ RequestQueueLaw s ∧ NodeDownLaw s ∧ AssemblyLaw s

/-- R118, R119, R144: a free transmitter whose link is UP has nothing waiting for it. -/
def TransmitterLaw (s : State) : Prop :=
  (s.portH.link = .up → s.portH.tx = none →
    s.mgmt.respQ = [] ∧ s.mgmt.noticeQ = [] ∧ s.fwd.fqH = [] ∧ liveEligible s = none ∧ replayEligible s = none)
    ∧ (s.portN.link = .up → s.portN.tx = none → requestQueue s.req = [] ∧ s.fwd.fqN = [])

/-! ### The words of the statements -/

/-- A GCMD can be carried out: the part is not held in hardware reset, and the Response Queue has a place (R157). -/
def TakesCommands (s : State) : Prop := s.held = none ∧ s.mgmt.respQ.length < 4

/-- The GRSP of a command joins the back of the Response Queue, and the command is counted by its status (R157,
R167). -/
def answered (hdr : Header) (code : Nat) (status : Status) (results : List Word) (t : State) : State :=
  { t with
    mgmt.respQ :=
      t.mgmt.respQ ++ [{ tag := hdr.tag, code := BitVec.ofNat 16 code, status := status, results := results }]
    mgmt.ctr.taken := t.mgmt.ctr.taken + 1
    mgmt.ctr.badcmd := t.mgmt.ctr.badcmd + (if status = .badcmd then 1 else 0)
    mgmt.ctr.length := t.mgmt.ctr.length + (if status = .length then 1 else 0)
    mgmt.ctr.other :=
      t.mgmt.ctr.other + (if status = .ok ∨ status = .badcmd ∨ status = .length then 0 else 1) }

/-- The header, the command code and the parameters of a command's row (Table 9-2, R192). -/
def gcmdParts (c : Instr) : Option (Header × Nat × List Word) :=
  match c with
  | .identify hdr ps => some (hdr, 0, ps)
  | .getItem hdr ps => some (hdr, 1, ps)
  | .setItem hdr ps => some (hdr, 2, ps)
  | .scanWrite hdr ps => some (hdr, 3, ps)
  | .scanRead hdr ps => some (hdr, 4, ps)
  | .eventWrite hdr ps => some (hdr, 5, ps)
  | .eventRead hdr ps => some (hdr, 6, ps)
  | .tmapWrite hdr ps => some (hdr, 7, ps)
  | .tmapRead hdr ps => some (hdr, 8, ps)
  | .arm hdr ps => some (hdr, 9, ps)
  | .stop hdr ps => some (hdr, 10, ps)
  | .halt hdr ps => some (hdr, 11, ps)
  | .sweepNow hdr ps => some (hdr, 12, ps)
  | .credit hdr ps => some (hdr, 13, ps)
  | .ack hdr ps => some (hdr, 14, ps)
  | .markSet hdr ps => some (hdr, 15, ps)
  | .markClear hdr ps => some (hdr, 16, ps)
  | .markRead hdr ps => some (hdr, 17, ps)
  | .replay hdr ps => some (hdr, 18, ps)
  | .replayAbort hdr ps => some (hdr, 19, ps)
  | .storeStatus hdr ps => some (hdr, 20, ps)
  | .seqStatus hdr ps => some (hdr, 21, ps)
  | .flush hdr ps => some (hdr, 22, ps)
  | .reset hdr ps => some (hdr, 23, ps)
  | .countersRead hdr ps => some (hdr, 24, ps)
  | .countersClear hdr ps => some (hdr, 25, ps)
  | _ => none

/-- The parameter words each command requires, in the order of the command codes; SCAN_WRITE's two come before its
records (Table 9-2). -/
def paramWords : List Nat := [0, 1, 3, 2, 2, 8, 2, 4, 0, 1, 0, 0, 0, 1, 2, 4, 1, 0, 5, 0, 0, 0, 0, 0, 1, 1]

/-- The payload Length is the one the command requires (R161): for SCAN_WRITE, 7 words for each entry of its Entry
Count follow the first two parameters. -/
def lengthRight (code : Nat) (params : List Word) : Bool :=
  if code = 3 then
    decide (2 ≤ params.length) && decide (params.length = 2 + 7 * (params.getD 1 0).toNat)
  else decide (paramWords[code]? = some params.length)

/-- The values of the fourteen items in the order of their numbers (Table 9-3). -/
def itemValues (m : Management) : List Nat :=
  [(modeWord m.items.sweepMode).toNat, m.items.firstEntry, m.items.lastEntry, m.items.sweepPeriod,
   m.items.maxOutstanding, (policyWord m.items.admitPolicy).toNat, (retainWord m.items.retainMode).toNat,
   m.items.fillHigh, m.items.fillLow, m.items.markPre, m.items.silenceTime, m.items.noticeEnable.toNat,
   (verdictWord m.items.eventDefault).toNat, m.timeBase.toNat]

/-- The least and the greatest value of each item, in the order of their numbers (Table 9-3). -/
def itemRanges : List (Nat × Nat) :=
  [(0, 2), (0, 63), (0, 63), (0, 65535), (1, 4), (0, 1), (0, 1), (1, 65536), (0, 65535), (0, 255), (32, 65535),
   (0, 255), (0, 1), (0, 4294967295)]

/-- The value lies in the item's range (R164 check 2). -/
def valueAllowed (k v : Nat) : Prop := ∃ r ∈ itemRanges[k]?, r.1 ≤ v ∧ v ≤ r.2

/-- The item may be changed now (Table 9-3, R164 check 3). -/
def writableNow (k : Nat) (t : State) : Prop :=
  (k ≤ 4 → t.seq.st = .idle) ∧ (k = 6 → t.store.frames = [] ∧ t.del.session = none)

/-- FILL_LOW stays less than FILL_HIGH (R74, R164 check 4). -/
def thresholdsKept (k v : Nat) (t : State) : Prop :=
  (k = 7 → t.mgmt.items.fillLow < v) ∧ (k = 8 → v < t.mgmt.items.fillHigh)

/-- A state with every counter, the hit counts among them, at 0. -/
def withoutCounts (s : State) : State :=
  { s with
    seq.ctr := SeqCounters.zero
    req.ctr := ReqCounters.zero
    store.ctr := StoreCounters.zero
    del.ctr := DelCounters.zero
    portH.ctr := PortCounters.zero
    portN.ctr := PortCounters.zero
    trig.ctr := TrigCounters.zero
    fwd.ctr := FwdCounters.zero
    fwd.table := s.fwd.table.map (fun e => { e with hits := 0 })
    fwd.defaultHits := 0
    mgmt.ctr := CmdCounters.zero }

/-- The latch emptied, a start it held counted as cleared (R8, R18). -/
def latchEmptied (s : State) : State :=
  { s with
    seq.latch := none
    seq.ctr.latchedCleared := s.seq.ctr.latchedCleared + (if s.seq.latch.isSome then 1 else 0) }

/-- An ACTIVE session ends: its claim goes, REPLAY_END is posted, the ending is counted by its cause, and the frames
sent stay (R116, R124). -/
def sessionEnded (cause : EndCause) (s : State) : State :=
  postNotice (.replayEnd cause s.del.framesSent)
    (refloor
      { s with
        del.session := none
        del.ctr.endedDone := s.del.ctr.endedDone + (if cause = .done then 1 else 0)
        del.ctr.endedAbort := s.del.ctr.endedAbort + (if cause = .abort then 1 else 0)
        del.ctr.endedLinkFlush := s.del.ctr.endedLinkFlush + (if cause = .flush ∨ cause = .link then 1 else 0) })

/-- The included entries of sweep `n`, one by one (R5): in the active range, enabled, and `n` a multiple of the
Divisor. -/
def Included (s : State) (n : Word32) (i : Fin 64) : Prop :=
  s.mgmt.items.firstEntry ≤ i.val ∧ i.val ≤ s.mgmt.items.lastEntry ∧ s.seq.scanList[i].enabled = true
    ∧ s.seq.scanList[i].divisor ∣ n.toNat

end Sys2Proof.Machine
end

