-- ==== Sys2Proof/Certificates/Slice0/Obligations.lean ====
section
/-! DEFINITION. The statements for the provers. In each, `arrive .h s` is the state in which a packet of the H link is
sorted (the statement ArrivalBringsLinkUp says what an arrival does), and `pump` is what the two free transmitters
take at the end of a step (the statements HeadTransmissionEnd, NodeTransmissionEnd and TransmittersLeave say what).
An equation of the form exec c s = next (pump u) says everything: what u does not change, the command does not
change. -/

open Sys2Proof Sys2Proof.Machine

/-! ### Steps and resets -/

/-- A step takes the command at the front of the queue and carries it out with the queue's rest; on an empty queue the
block idles (the model's choice, assumption log entry 1). -/
def Obligations.StepTakesFrontCommand : Prop :=
  (∀ (c : Instr) (s : State), step { s with pending := c :: s.pending } = exec c s)
    ∧ ∀ s : State, s.pending = [] → step s = .next s

/-- Every command, in every state, answers a next state and leaves the queue of waiting commands alone: no meaning
faults and none refuses. While the part is held in hardware reset, every command but HARDWARE_RESET and
LEAVE_HARDWARE_RESET leaves it as it is (DEDUCED, assumption log entry 3). -/
def Obligations.EveryCommandCompletes : Prop :=
  ∀ (c : Instr) (s : State),
    (∃ t, exec c s = .next t ∧ t.pending = s.pending)
      ∧ (s.held.isSome → (∀ k, c ≠ .hardwareReset k) → c ≠ .leaveHardwareReset → exec c s = .next s)

/-- From any state, hardware reset and then its end leave every block at its values after hardware reset, with RESTART
alone in the Notice Queue; its cause is POWER when the reset began at power-on and LINE when RST- was taken low
(R175). Leaving a reset starts both keepalive counts at 10. The model's own readings, each in the assumption log: the
values are written when the reset begins (entry 3, DEDUCED); RST- taken low during a power-on reset leaves the cause
POWER (entry 20, DEDUCED); the Posted At of RESTART is 0 (entry 10, DEDUCED); the model's two fields stay (entry 8,
DESIGN CHOICE); the copies that ARM fixes hold the items' defaults (entry 7, DESIGN CHOICE); a stopped silence timer
holds 0 (entry 22, DESIGN CHOICE); and the first frame's words begin at place 0 of the pool (entry 26, DESIGN CHOICE).
-/
def Obligations.HardwareResetRestoresEveryBlock : Prop :=
  (∀ (cause : ResetCause) (s : State), ∃ t,
      exec (.hardwareReset cause) s = .next t
        ∧ t.held = some (if s.held = some .power then .power else cause)
        ∧ exec .leaveHardwareReset t =
          .next { State.reset with
            mgmt.noticeQ :=
              [{ postedAt := 0,
                 body := .restart (if s.held = some .power ∨ cause = .power then .power else .line) }]
            choices := s.choices
            pending := s.pending })
    ∧ ∀ s : State, s.held.isSome →
      exec .leaveHardwareReset s = .next { s with held := none, portH.keepalive := 10, portN.keepalive := 10 }

/-- The values each block holds after hardware reset, at the part's first state (R25, R45, R62, R81,
Table 5-1, R104, R106, R111, R120, R138, R144, R156, R175, R189). That a stopped silence timer holds 0 is the model's
choice (assumption log entry 22, DESIGN CHOICE), and that RESTART's Posted At is 0 its reading (entry 10, DEDUCED). -/
def Obligations.ResetValuesOfEveryBlock : Prop :=
  let s := State.reset
  (s.seq.st = .idle ∧ s.seq.sweepNo = 0 ∧ s.seq.periodTimer = none ∧ s.seq.latch = none ∧ s.seq.stopPending = false
      ∧ (∀ i : Fin 64, s.seq.scanList[i] = ⟨false, 1, 0, 1, 1, 10, 0⟩))
    ∧ ((∀ i : Fin 4, s.req.slots[i] = ⟨.free, 0⟩) ∧ requestQueue s.req = [])
    ∧ (s.asm.current = none ∧ s.asm.pendingGap = 0)
    ∧ (s.store.frames = [] ∧ s.store.occupancy = 0 ∧ s.store.nextSeq = 0 ∧ s.store.fill = .normal)
    ∧ (s.ret.ackedThrough = 0xFFFFFFFF#32 ∧ (∀ i : Fin 8, s.ret.bookmarks[i] = .free) ∧ s.ret.floor = 0)
    ∧ (s.del.credit = 0 ∧ s.del.liveCursor = 0 ∧ s.del.session = none ∧ s.del.framesSent = 0)
    ∧ (∀ p : Port, (portOf p s).link = .down ∧ (portOf p s).silence = 0 ∧ (portOf p s).keepalive = 10
        ∧ (portOf p s).tx = none ∧ (portOf p s).rx = .waiting)
    ∧ (s.frameTurn = .replay ∧ s.sourceTurn = .forward)
    ∧ ((∀ i : Fin 8, s.trig.map[i] = ⟨.rise, .none, 0⟩) ∧ ∀ i : Fin 4, s.trig.lines[i].seen = none)
    ∧ (s.fwd.fqH = [] ∧ s.fwd.fqN = [] ∧ s.fwd.defaultHits = 0
        ∧ ∀ i : Fin 32, s.fwd.table[i] = ⟨false, 0, 0, 0, .pass, none, none, 0⟩)
    ∧ (itemValues s.mgmt = [0, 0, 0, 1000, 4, 0, 0, 49152, 16384, 0, 100, 255, 0, 0] ∧ s.mgmt.respQ = []
        ∧ s.mgmt.noticeQ = [{ postedAt := 0, body := .restart .power }] ∧ s.mgmt.ctr.posted = 1)
    ∧ withoutCounts { s with mgmt.ctr.posted := 0 } = { s with mgmt.ctr.posted := 0 }

/-! ### Laws of the part -/

/-- Every law of the part holds at reset. (The laws of a DOWN link among them say that its stopped silence timer holds
0, which is the model's choice: assumption log entry 22, DESIGN CHOICE.) -/
def Obligations.LawsHoldAtReset : Prop :=
  FramePathLaw State.reset ∧ RequestPathLaw State.reset ∧ QueueLaw State.reset ∧ CreditLaw State.reset
    ∧ TableLaw State.reset ∧ HeadDownLaw State.reset ∧ TransmitterLaw State.reset

/-- Every step keeps the laws of the frame path: the store's order, numbers and occupancy (R66), the place of each
frame's words in the Word Pool behind those of the frame before it, the relation of LiveCursor, AckedThrough and the
oldest frame, a stored target for every SET bookmark, a stored cursor for an ACTIVE session, and the floor as the
oldest candidate. -/
def Obligations.FramePathLawKept : Prop :=
  ∀ s t : State, FramePathLaw s → step s = .next t → FramePathLaw t

/-- Every step keeps the laws of the request path: the three conditions on the slots (R28), what each sequencer state
holds (Table 1-2), the request queue (R31), what a DOWN N link leaves waiting (R41, R142), and the frame under
assembly (R46, R49): its included entries are those of its sweep, its slots stand in ascending entry order, one at
most for each entry and only for included entries, and while it collects, each included entry either has its slot or
is still to come, once. (That the stopped silence timer of a DOWN N link holds 0, which these laws say too, is the
model's choice: assumption log entry 22, DESIGN CHOICE.) -/
def Obligations.RequestPathLawKept : Prop :=
  ∀ s t : State, RequestPathLaw s → step s = .next t → RequestPathLaw t

/-- Every step keeps the limits of the queues and of the credit. -/
def Obligations.QueueAndCreditLawKept : Prop :=
  ∀ s t : State, QueueLaw s → CreditLaw s → step s = .next t → QueueLaw t ∧ CreditLaw t

/-- Every step keeps every table field and every item in its range, with FILL_LOW less than FILL_HIGH. -/
def Obligations.TableLawKept : Prop :=
  ∀ s t : State, TableLaw s → step s = .next t → TableLaw t

/-- Every step keeps what a DOWN H link implies: IDLE packets only, no credit, no session, empty queues, and a stopped
silence timer (that it holds 0 is the model's choice, assumption log entry 22). -/
def Obligations.HeadDownLawKept : Prop :=
  ∀ s t : State, HeadDownLaw s → step s = .next t → HeadDownLaw t

/-- Every step leaves a free transmitter whose link is UP with nothing waiting for it (that a transmission begins at
the end of the step is the model's reading, assumption log entry 19). -/
def Obligations.TransmitterLawKept : Prop :=
  ∀ s t : State, RequestQueueLaw s → TransmitterLaw s → step s = .next t → TransmitterLaw t

/-! ### Arrivals -/

/-- What the beginning of transmissions never touches: the sequencer, the Assembler, the store, the bookmarks, the
triggers, the Event Table, the items, the Time Base, the links and the receivers; and a port that is busy or whose
link is DOWN begins nothing. -/
def Obligations.TransmittersLeave : Prop :=
  ∀ s : State,
    let u := pump s
    (u.held = s.held ∧ u.seq = s.seq ∧ u.asm = s.asm ∧ u.store = s.store ∧ u.trig = s.trig
        ∧ u.ret.bookmarks = s.ret.bookmarks ∧ u.mgmt.items = s.mgmt.items ∧ u.mgmt.timeBase = s.mgmt.timeBase
        ∧ u.fwd.table = s.fwd.table ∧ u.fwd.defaultHits = s.fwd.defaultHits ∧ u.choices = s.choices
        ∧ u.pending = s.pending)
      ∧ (∀ p : Port, (portOf p u).link = (portOf p s).link ∧ (portOf p u).silence = (portOf p s).silence
        ∧ (portOf p u).keepalive = (portOf p s).keepalive ∧ (portOf p u).rx = (portOf p s).rx
        ∧ ((portOf p s).link = .down ∨ (portOf p s).tx.isSome → portOf p u = portOf p s))
      ∧ ((s.portH.link = .down ∨ s.portH.tx.isSome) → (s.portN.link = .down ∨ s.portN.tx.isSome) → u = s)

/-- R185: an undamaged packet (here an IDLE packet, consumed and counted) reloads the silence timer of its link, and
brings a DOWN link UP before the packet is sorted: on the H link the transmitter is offered what waits; on the N link
LINK_N is posted and a sequencer in LINK_WAIT enters WAIT_START. That free transmitters begin before the packet is
sorted, and that LINK_N is posted before the sequencer acts, are the model's readings (assumption log entries 5 and
17, DEDUCED). -/
def Obligations.ArrivalBringsLinkUp : Prop :=
  ∀ (p : Port) (dest : BitVec 5) (hdr : Header) (payload : List Word) (s : State), s.held = none →
    let heard : State → State := withPort p (fun b =>
      { b with rx := .waiting, silence := s.mgmt.items.silenceTime, ctr.received := b.ctr.received + 1 })
    let idle : State → State := withPort p (fun b => { b with ctr.idles := b.ctr.idles + 1 })
    let raised : State → State := withPort p (fun b => { b with link := .up, ctr.gains := b.ctr.gains + 1 })
    let linked := postNotice (.linkN .up) (raised (heard s))
    ((portOf p s).link = .up → exec (.idleReceived p dest hdr payload) s = .next (pump (idle (heard s))))
      ∧ ((portOf p s).link = .down → p = .h →
        exec (.idleReceived p dest hdr payload) s = .next (pump (idle (pump (raised (heard s))))))
      ∧ ((portOf p s).link = .down → p = .n →
        exec (.idleReceived p dest hdr payload) s =
          .next (pump (idle (pump
            (if s.seq.st = .linkWait then settled { linked with seq.st := .waitStart } else linked)))))

/-- A packet of unknown kind, a misrouted packet and a bad trigger arrive intact, are discarded and are counted once
each: misrouted is every known kind but IDLE that the port does not accept for its destination. A damaged packet (a
closed run of fewer than four words, of a Length above 1,280, of a word count other than Length + 4 or of a failed
check; a run that a start delimiter cut off; a run of 1,285 words) is discarded and counted, and is no arrival: the
link, its silence timer and every owner are as they were, and the receiver has a packet open exactly after a start
delimiter. -/
def Obligations.DiscardedPacketsAreCounted : Prop :=
  ∀ (p : Port) (s : State), s.held = none →
    let misrouted : Packet → Prop := fun q =>
      let k := q.kind.toNat
      let d := q.dest.toNat
      1 ≤ k ∧ k ≤ 11 ∧ match p with
        | .h => ¬ (d = 30 ∧ (k = 6 ∨ k = 11)) ∧ ¬ ((1 ≤ d ∧ d ≤ 29 ∨ d = 31) ∧ (k = 1 ∨ k = 3))
        | .n => ¬ (d = 30 ∧ (k = 2 ∨ k = 11)) ∧ ¬ (d = 0 ∧ (k = 2 ∨ k = 4 ∨ k = 5))
    let damaged : State := withPort p (fun b => { b with ctr.damaged := b.ctr.damaged + 1 }) s
    (∀ low dest hdr payload, exec (.unknownKind p low dest hdr payload) s =
        .next (pump (withPort p (fun b => { b with ctr.unknown := b.ctr.unknown + 1 }) (arrive p s))))
      ∧ (∀ pkt, misrouted pkt → exec (.packetMisrouted p pkt) s =
        .next (pump (withPort p (fun b => { b with ctr.misrouted := b.ctr.misrouted + 1 }) (arrive p s))))
      ∧ (∀ hdr (payload : List Word),
        (payload.length = 1 → (payload.headD 0).toNat < 4 ∨ 7 < (payload.headD 0).toNat) →
        exec (.badTrigger p hdr payload) s =
          .next (pump (withPort p (fun b => { b with ctr.badTriggers := b.ctr.badTriggers + 1 }) (arrive p s))))
      ∧ (∀ ws : List Word, ws.length ≤ 1284 →
        (ws.length < 4 ∨ 1280 < (ws.getD 2 0).toNat ∨ ws.length ≠ (ws.getD 2 0).toNat + 4
          ∨ checkWord ws.dropLast ≠ ws.getLastD 0) →
        exec (.packetDamaged p (.closed ws)) s = .next (withPort p (fun b => { b with rx := .waiting }) damaged))
      ∧ (∀ ws : List Word, ws.length ≤ 1284 →
        exec (.packetDamaged p (.restarted ws)) s = .next (withPort p (fun b => { b with rx := .packetOpen }) damaged))
      ∧ ∀ ws : List Word, ws.length = 1285 →
        exec (.packetDamaged p (.overlong ws)) s = .next (withPort p (fun b => { b with rx := .waiting }) damaged)

/-! ### Taking commands -/

/-- R159: a GCMD, RESET and FLUSH included, that finds four responses in the Response Queue has no effect but its
arrival and the count of command overflows. -/
def Obligations.OverflowHasNoEffect : Prop :=
  ∀ (c : Instr) (s : State), s.held = none → 4 ≤ (arrive .h s).mgmt.respQ.length →
    ((gcmdParts c).isSome ∨ (∃ hdr payload, c = .commandOverflow hdr payload)
      ∨ ∃ hdr payload, c = .unknownCommand hdr payload ∧ c.wellFormed = true) →
    exec c s =
      .next (pump { arrive .h s with mgmt.ctr.overflows := (arrive .h s).mgmt.ctr.overflows + 1 })

/-- A command whose payload names no command is answered BADCMD, with the code word it carried, or FFFFh when it
carried none; a command whose Length is wrong is answered LENGTH. Neither carries result words, and neither changes
anything else. -/
def Obligations.BadCodeAndWrongLengthAreAnswered : Prop :=
  (∀ hdr payload s, TakesCommands s → (payload = [] ∨ 26 ≤ (payload.headD 0).toNat) →
      exec (.unknownCommand hdr payload) s =
        .next (pump (answered hdr (payload.headD 0xFFFF#16).toNat .badcmd [] (arrive .h s))))
    ∧ ∀ c hdr code params s, TakesCommands s → gcmdParts c = some (hdr, code, params) →
      lengthRight code params = false →
      exec c s = .next (pump (answered hdr code .length [] (arrive .h s)))

/-- R162: IDENTIFY reports the same identity and capacities in every state and changes nothing else. -/
def Obligations.IdentifyReportsThePart : Prop :=
  ∀ hdr s, TakesCommands s →
    exec (.identify hdr []) s =
      .next (pump (answered hdr 0 .ok
        [0x01A6#16, 0x0024#16, 3, 64, 4, 1024, 1, 0, 8, 8, 32, 16, 8, 4, 8, 1280] (arrive .h s)))

/-- The four reports: STORE_STATUS and SEQ_STATUS give their fields in order, as they stand; MARK_READ gives each
bookmark's state and target, AckedThrough and the floor; TMAP_READ gives the eight Trigger Map entries and the four
seen levels. Each is answered in every state and changes nothing else. -/
def Obligations.StatusReports : Prop :=
  ∀ hdr s, TakesCommands s →
    let t := arrive .h s
    let c := t.store.frames.length
    let ends : List Word :=
      if c = 0 then [0, 0, 0, 0]
      else word32Words (t.store.nextSeq - BitVec.ofNat 32 c) ++ word32Words (t.store.nextSeq - 1)
    let slot : Slot → List Word := fun x =>
      match x.use with
      | .free => [0, 0, natWord x.gen.toNat, 0]
      | .queued e a => [1, natWord e.val, natWord x.gen.toNat, natWord a]
      | .await e a _ => [2, natWord e.val, natWord x.gen.toNat, natWord a]
    let mark : Bookmark → List Word := fun b =>
      match b with
      | .free => [0, 0, 0]
      | .pending => [1, 0, 0]
      | .set n => 2 :: word32Words n
    exec (.storeStatus hdr []) s =
        .next (pump (answered hdr 20 .ok
          ([if c = 0 then 1 else 0, natWord c] ++ natWords t.store.occupancy ++ ends ++ word32Words t.store.nextSeq
            ++ word32Words t.del.liveCursor ++ word32Words t.ret.ackedThrough
            ++ [fillWord t.store.fill, retainWord t.mgmt.items.retainMode, if t.del.session = none then 0 else 1]) t))
      ∧ exec (.seqStatus hdr []) s =
        .next (pump (answered hdr 21 .ok
          ([seqStateWord t.seq.st, modeWord (if t.seq.st = .idle then t.mgmt.items.sweepMode else t.seq.mode),
              if t.seq.stopPending then 1 else 0]
            ++ word32Words t.seq.sweepNo ++ [latchWord t.seq.latch]
            ++ (match t.seq.periodTimer with
              | none => [0, 0]
              | some r => [1, if t.seq.period = 0 then 0 else natWord r])
            ++ (match t.asm.current with
              | none => [0, 0]
              | some a => [natWord a.included.length, natWord a.frame.slots.length])
            ++ slot t.req.slots[0] ++ slot t.req.slots[1] ++ slot t.req.slots[2] ++ slot t.req.slots[3]
            ++ [linkWord t.portH.link, linkWord t.portN.link]) t))
      ∧ exec (.markRead hdr []) s =
        .next (pump (answered hdr 17 .ok
          ((List.finRange 8).flatMap (fun i => mark t.ret.bookmarks[i])
            ++ word32Words t.ret.ackedThrough ++ word32Words t.ret.floor) t))
      ∧ exec (.tmapRead hdr []) s =
        .next (pump (answered hdr 8 .ok
          ((List.finRange 8).flatMap (fun i => [detectionWord t.trig.map[i].detection,
              actionWord t.trig.map[i].action, natWord t.trig.map[i].bookmark.val])
            ++ (List.finRange 4).map (fun i => seenWord t.trig.lines[i].seen)) t))

/-- SCAN_READ and EVENT_READ return the entries First Index onward, Entry Count of them, each in the order of its
table's fields, with EVENT_DEFAULT and the default hit count behind the events; a run that does not lie in the table
is refused with RANGE. -/
def Obligations.TableReads : Prop :=
  ∀ hdr (first count : Word) s, TakesCommands s →
    let t := arrive .h s
    let fits : Nat → Prop := fun size =>
      first.toNat < size ∧ 1 ≤ count.toNat ∧ first.toNat + count.toNat ≤ size
    (fits 64 → exec (.scanRead hdr [first, count]) s =
        .next (pump (answered hdr 4 .ok
          ((List.finRange 64).flatMap (fun i =>
            if first.toNat ≤ i.val ∧ i.val < first.toNat + count.toNat then
              let e := t.seq.scanList[i]
              [boolWord e.enabled, natWord e.node.toNat, natWord e.channel.toNat, natWord e.count,
               natWord e.divisor, natWord e.timeout, natWord e.retries]
            else [])) t)))
      ∧ (¬ fits 64 → exec (.scanRead hdr [first, count]) s = .next (pump (answered hdr 4 .range [] t)))
      ∧ (fits 32 → exec (.eventRead hdr [first, count]) s =
        .next (pump (answered hdr 6 .ok
          ((List.finRange 32).flatMap (fun i =>
            if first.toNat ≤ i.val ∧ i.val < first.toNat + count.toNat then
              let e := t.fwd.table[i]
              [boolWord e.enabled, natWord e.node.toNat, natWord e.code.toNat, natWord e.mask.toNat,
               verdictWord e.verdict, eventTriggerWord e.trigger, eventMarkWord e.mark, e.hits]
            else [])
            ++ [verdictWord t.mgmt.items.eventDefault, t.fwd.defaultHits]) t)))
      ∧ (¬ fits 32 → exec (.eventRead hdr [first, count]) s = .next (pump (answered hdr 6 .range [] t)))

/-- R163: GET_ITEM of an item number from 0 to 13 reports the number and the item's value, the Time Base for TIME; a
greater number is refused with RANGE and an empty result. -/
def Obligations.GetItemReportsTheValue : Prop :=
  ∀ hdr (w : Word) s, TakesCommands s →
    let t := arrive .h s
    (∀ v ∈ (itemValues t.mgmt)[w.toNat]?,
        exec (.getItem hdr [w]) s = .next (pump (answered hdr 1 .ok (w :: natWords v) t)))
      ∧ (13 < w.toNat → exec (.getItem hdr [w]) s = .next (pump (answered hdr 1 .range [] t)))

/-- COUNTERS_READ reports a group's code, the number of its counters and their values, and changes nothing else;
COUNTERS_CLEAR sets every counter of its group, or of all groups with code 15, to 0 and changes no other state; with
group FORWARD the 32 hit counts and the default hit count become 0 as well, and with any other single group they stay;
any other code is refused with RANGE. -/
def Obligations.CountersReadAndCleared : Prop :=
  ∀ hdr (w : Word) s, TakesCommands s →
    let t := arrive .h s
    (∀ g ∈ allGroups[w.toNat]?,
        exec (.countersRead hdr [w]) s =
            .next (pump (answered hdr 24 .ok
              (w :: natWord (groupCounters g t).length :: (groupCounters g t).flatMap word32Words) t))
          ∧ exec (.countersClear hdr [w]) s = .next (pump (answered hdr 25 .ok [w] (clearGroup g t))))
      ∧ (w.toNat = 15 → exec (.countersClear hdr [w]) s = .next (pump (answered hdr 25 .ok [w] (withoutCounts t))))
      ∧ (7 < w.toNat → exec (.countersRead hdr [w]) s = .next (pump (answered hdr 24 .range [] t)))
      ∧ (7 < w.toNat → w.toNat ≠ 15 →
        exec (.countersClear hdr [w]) s = .next (pump (answered hdr 25 .range [] t)))
      ∧ (∀ g, withoutCounts (clearGroup g t) = withoutCounts t ∧ (∀ c ∈ groupCounters g (clearGroup g t), c = 0)
        ∧ ∀ g', g' ≠ g → groupCounters g' (clearGroup g t) = groupCounters g' t)
      ∧ (let cleared := clearGroup .forward t
        cleared.fwd.defaultHits = 0 ∧ ∀ i : Fin 32, cleared.fwd.table[i] = { t.fwd.table[i] with hits := 0 })
      ∧ (∀ g, g ≠ .forward →
        (clearGroup g t).fwd.table = t.fwd.table ∧ (clearGroup g t).fwd.defaultHits = t.fwd.defaultHits)
      ∧ allGroups.map (fun g => (groupCounters g t).length) = [17, 10, 8, 10, 6, 13, 12, 12]

/-! ### Configuration items -/

/-- SET_ITEM refused, by the first check that fails: an unknown item or a value out of range with RANGE, a write the
item does not allow now with STATE, thresholds that would cross with RANGE. The answer carries the unchanged value
when the item is known, and nothing changes. -/
def Obligations.SetItemRefused : Prop :=
  ∀ hdr (w hi lo : Word) s, TakesCommands s →
    let t := arrive .h s
    let v := (hi ++ lo).toNat
    let k := w.toNat
    (13 < k → exec (.setItem hdr [w, hi, lo]) s = .next (pump (answered hdr 2 .range [] t)))
      ∧ ∀ old ∈ (itemValues t.mgmt)[k]?,
        (¬ valueAllowed k v →
          exec (.setItem hdr [w, hi, lo]) s = .next (pump (answered hdr 2 .range (w :: natWords old) t)))
        ∧ (valueAllowed k v → ¬ writableNow k t →
          exec (.setItem hdr [w, hi, lo]) s = .next (pump (answered hdr 2 .state (w :: natWords old) t)))
        ∧ (valueAllowed k v → writableNow k t → ¬ thresholdsKept k v t →
          exec (.setItem hdr [w, hi, lo]) s = .next (pump (answered hdr 2 .range (w :: natWords old) t)))

/-- SET_ITEM accepted: the item, or the Time Base, takes the value and the answer carries it. For the items whose
owners only read them later nothing else changes; FILL_HIGH and FILL_LOW bring a re-evaluation of the fill state
(R74), SILENCE_TIME cuts a longer running silence timer on both ports (R186), and ADMIT_POLICY brings an admission
attempt in ADMIT_WAIT alone (R57). -/
def Obligations.SetItemAccepted : Prop :=
  ∀ hdr (w hi lo : Word) s, TakesCommands s →
    let t := arrive .h s
    let v := (hi ++ lo).toNat
    valueAllowed w.toNat v → writableNow w.toNat t → thresholdsKept w.toNat v t →
    let reevaluated : State → State := fun u =>
      if u.store.fill = .normal ∧ u.mgmt.items.fillHigh ≤ u.store.occupancy then
        postNotice (.fill .high u.store.occupancy)
          { u with store.fill := .high, store.ctr.highEntries := u.store.ctr.highEntries + 1 }
      else if u.store.fill = .high ∧ u.store.occupancy ≤ u.mgmt.items.fillLow then
        postNotice (.fill .normal u.store.occupancy) { u with store.fill := .normal }
      else u
    let cut : PortBlock → PortBlock := fun b => if b.link = .up then { b with silence := min b.silence v } else b
    let policy := { t with mgmt.items.admitPolicy := if v = 0 then .hold else .discard }
    (∀ u, (w = 0 ∧ u = { t with
          mgmt.items.sweepMode := if v = 0 then .single else if v = 1 then .continuous else .step })
        ∨ (w = 1 ∧ u = { t with mgmt.items.firstEntry := v })
        ∨ (w = 2 ∧ u = { t with mgmt.items.lastEntry := v })
        ∨ (w = 3 ∧ u = { t with mgmt.items.sweepPeriod := v })
        ∨ (w = 4 ∧ u = { t with mgmt.items.maxOutstanding := v })
        ∨ (w = 6 ∧ u = { t with mgmt.items.retainMode := if v = 0 then .acked else .sent })
        ∨ (w = 9 ∧ u = { t with mgmt.items.markPre := v })
        ∨ (w = 11 ∧ u = { t with mgmt.items.noticeEnable := BitVec.ofNat 8 v })
        ∨ (w = 12 ∧ u = { t with mgmt.items.eventDefault := if v = 0 then .pass else .drop })
        ∨ (w = 13 ∧ u = { t with mgmt.timeBase := hi ++ lo }) →
      exec (.setItem hdr [w, hi, lo]) s = .next (pump (answered hdr 2 .ok [w, hi, lo] u)))
      ∧ (w = 7 → exec (.setItem hdr [w, hi, lo]) s =
        .next (pump (answered hdr 2 .ok [w, hi, lo] (reevaluated { t with mgmt.items.fillHigh := v }))))
      ∧ (w = 8 → exec (.setItem hdr [w, hi, lo]) s =
        .next (pump (answered hdr 2 .ok [w, hi, lo] (reevaluated { t with mgmt.items.fillLow := v }))))
      ∧ (w = 10 → exec (.setItem hdr [w, hi, lo]) s =
        .next (pump (answered hdr 2 .ok [w, hi, lo]
          { t with mgmt.items.silenceTime := v, portH := cut t.portH, portN := cut t.portN })))
      ∧ (w = 5 → t.seq.st ≠ .admitWait →
        exec (.setItem hdr [w, hi, lo]) s = .next (pump (answered hdr 2 .ok [w, hi, lo] policy)))
      ∧ (w = 5 → t.seq.st = .admitWait →
        exec (.setItem hdr [w, hi, lo]) s =
          .next (pump (answered hdr 2 .ok [w, hi, lo] (settled (attemptAdmission false policy)))))

/-! ### Tables -/

/-- SCAN_WRITE: refused with STATE outside IDLE, and with RANGE when the run or any field of any record is out of
range, with no entry changed; accepted, it writes exactly the entries of the run, and changes nothing else but them.
-/
def Obligations.ScanWriteWritesTheRun : Prop :=
  ∀ hdr (first count : Word) (es : List (List Word)) s, TakesCommands s →
    let t := arrive .h s
    es.length = count.toNat → (∀ e ∈ es, e.length = 7) →
    let c : Instr := .scanWrite hdr (first :: count :: es.flatten)
    let good : Prop := first.toNat ≤ 63 ∧ 1 ≤ count.toNat ∧ first.toNat + count.toNat ≤ 64
      ∧ ∀ e ∈ es, (e.getD 0 0).toNat ≤ 1 ∧ 1 ≤ (e.getD 1 0).toNat ∧ (e.getD 1 0).toNat ≤ 29
        ∧ (e.getD 2 0).toNat ≤ 63 ∧ 1 ≤ (e.getD 3 0).toNat ∧ (e.getD 3 0).toNat ≤ 16
        ∧ 1 ≤ (e.getD 4 0).toNat ∧ (e.getD 4 0).toNat ≤ 255
        ∧ 1 ≤ (e.getD 5 0).toNat ∧ (e.getD 5 0).toNat ≤ 255 ∧ (e.getD 6 0).toNat ≤ 3
    (t.seq.st ≠ .idle → exec c s = .next (pump (answered hdr 3 .state [] t)))
      ∧ (t.seq.st = .idle → ¬ good → exec c s = .next (pump (answered hdr 3 .range [] t)))
      ∧ (t.seq.st = .idle → good → ∃ list : Vector ScanEntry 64,
        exec c s = .next (pump (answered hdr 3 .ok [] { t with seq.scanList := list }))
        ∧ (∀ i : Fin 64, i.val < first.toNat ∨ first.toNat + count.toNat ≤ i.val → list[i] = t.seq.scanList[i])
        ∧ ∀ (i : Fin 64) (k : Nat) (e : List Word), i.val = first.toNat + k → es[k]? = some e →
          scanEntryWords list[i] = e)

/-- EVENT_WRITE: refused with RANGE when the Index or a field is out of range; accepted, it writes the seven fields of
its entry, keeps the entry's hit count, and changes nothing else. -/
def Obligations.EventWriteKeepsHitCount : Prop :=
  ∀ hdr (idx en node code mask verdict trigger mark : Word) s, TakesCommands s →
    let t := arrive .h s
    let c : Instr := .eventWrite hdr [idx, en, node, code, mask, verdict, trigger, mark]
    let good : Prop := idx.toNat ≤ 31 ∧ en.toNat ≤ 1 ∧ node.toNat ≤ 29 ∧ code.toNat ≤ 255 ∧ mask.toNat ≤ 255
      ∧ verdict.toNat ≤ 1 ∧ (trigger.toNat = 0 ∨ (4 ≤ trigger.toNat ∧ trigger.toNat ≤ 7)) ∧ mark.toNat ≤ 8
    (¬ good → exec c s = .next (pump (answered hdr 5 .range [] t)))
      ∧ (good → ∃ table : Vector EventEntry 32,
        exec c s = .next (pump (answered hdr 5 .ok [] { t with fwd.table := table }))
        ∧ ∀ i : Fin 32,
          (i.val ≠ idx.toNat → table[i] = t.fwd.table[i])
          ∧ (i.val = idx.toNat → eventEntryWords table[i] =
              [en, node, code, mask, verdict, trigger, mark, t.fwd.table[i].hits]))

/-- TMAP_WRITE: refused with RANGE for a source, Action or Bookmark out of range, and for a line source with a
Detection out of range or a pairing that Table 7-2 refuses; accepted, the entry takes the fields, a soft source's
Detection stays RISE, a line's edge detector takes the line's seen level as its reference, and a line made a level
source whose gate is open offers its start, which WAIT_START and STEP_PAUSE alone take and which alone counts it. (An
edge that falls together with the write: statement SeenLevelFiresEdgesAndGates.) -/
def Obligations.TmapWriteStoresTheEntry : Prop :=
  ∀ hdr (source detection action bookmark : Word) s, TakesCommands s →
    let t := arrive .h s
    let c : Instr := .tmapWrite hdr [source, detection, action, bookmark]
    let good : Prop := source.toNat ≤ 7 ∧ action.toNat ≤ 4 ∧ bookmark.toNat ≤ 7
      ∧ (source.toNat < 4 → detection.toNat ≤ 3 ∧ (2 ≤ detection.toNat → action.toNat = 1))
    (¬ good → exec c s = .next (pump (answered hdr 7 .range [] t)))
      ∧ ∀ (i : Fin 8) (e : TrigEntry), good → i.val = source.toNat →
        actionWord e.action = action → e.bookmark.val = bookmark.toNat →
        (i.val < 4 → detectionWord e.detection = detection) → (4 ≤ i.val → e.detection = .rise) →
        let written : State := { t with trig.map := setAt t.trig.map i e }
        (4 ≤ i.val → exec c s = .next (pump (answered hdr 7 .ok [] written)))
        ∧ ∀ line : Fin 4, line.val = i.val →
          let seen := t.trig.lines[line].seen
          let u : State := { written with trig.lines := setAt t.trig.lines line { seen := seen, ref := seen } }
          exec c s = .next (pump (answered hdr 7 .ok []
            (if ((e.detection = .high ∧ seen = some .high) ∨ (e.detection = .low ∧ seen = some .low))
                ∧ (t.seq.st = .waitStart ∨ t.seq.st = .stepPause) then
              (deliverStart (.trigger (lineSource line)) (countSource (lineSource line) u)).2
            else u)))

/-! ### The sequencer -/

/-- What becomes of an arriving start, by the sequencer's state and stop-pending (Table 1-3). -/
def Obligations.StartDisposal : Prop :=
  ∀ (c : StartCause) (s : State),
    let taken : State := { s with seq.ctr.startsTaken := s.seq.ctr.startsTaken + 1 }
    let ignored : State := { s with seq.ctr.startsIgnored := s.seq.ctr.startsIgnored + 1 }
    let latches : Bool := match s.seq.st with
      | .sweep => !s.seq.stopPending
      | .admitWait => !s.seq.stopPending
      | .linkWait => true
      | _ => false
    (s.seq.st = .idle → deliverStart c s = (.ignored, ignored))
      ∧ (s.seq.st = .waitStart → deliverStart c s = (.taken, settled (beginSweep c taken)))
      ∧ (s.seq.st = .stepPause → ∀ e rest, s.seq.remaining = e :: rest →
        deliverStart c s =
          (.taken, issueAvailable { taken with seq.st := .sweep, seq.available := [e], seq.remaining := rest }))
      ∧ (s.seq.st = .sweep ∨ s.seq.st = .admitWait → s.seq.stopPending = true →
        deliverStart c s = (.ignored, ignored))
      ∧ (latches = true → s.seq.latch = none →
        deliverStart c s =
          (.latched, { s with seq.latch := some c, seq.ctr.startsLatched := s.seq.ctr.startsLatched + 1 }))
      ∧ (latches = true → s.seq.latch ≠ none →
        deliverStart c s =
          (.overrun,
            postNotice (.startOverrun 1 c) { s with seq.ctr.startOverruns := s.seq.ctr.startOverruns + 1 }))

/-- R10: SWEEP_NOW is refused with STATE in IDLE and moves no counter of group SEQUENCER; in every armed state it
delivers a COMMAND start and answers OK with the start's disposition. -/
def Obligations.SweepNowDeliversAStart : Prop :=
  ∀ hdr s, TakesCommands s →
    let t := arrive .h s
    (t.seq.st = .idle → exec (.sweepNow hdr []) s = .next (pump (answered hdr 12 .state [] t)))
      ∧ (t.seq.st ≠ .idle → exec (.sweepNow hdr []) s =
        .next (pump (answered hdr 12 .ok
          [match (deliverStart .command t).1 with
            | .taken => 0
            | .latched => 1
            | .overrun => 2
            | .ignored => 3]
          (deliverStart .command t).2)))

/-- The beginning of a sweep: the Sweep Number rises, the frame under assembly is created with the start's cause and
the Time Base as Start Time, the period timer starts in CONTINUOUS mode alone, the sweep is counted, and the included
entries, ascending, are made available (in STEP mode the lowest alone) and issued. -/
def Obligations.SweepBegins : Prop :=
  ∀ (c : StartCause) (s : State),
    let n := s.seq.sweepNo + 1
    let inc := includedEntries s n
    let first : Nat := if s.seq.mode = .step then 1 else 64
    let opened : State := { s with
      asm.current := some
        { frame := { sweepNo := n, startTime := s.mgmt.timeBase, cause := c, gap := none, isLinkDown := false,
                     isFinal := false, isPartial := false, slots := [] },
          included := inc, complete := false }
      seq.sweepNo := n
      seq.periodTimer := if s.seq.mode = .continuous then some s.seq.period else s.seq.periodTimer
      seq.st := .sweep
      seq.available := inc.take first
      seq.remaining := inc.drop first
      seq.ctr.sweepsBegun := s.seq.ctr.sweepsBegun + 1 }
    (∀ i : Fin 64, i ∈ inc ↔ Included s n i) ∧ inc.Pairwise (· < ·)
      ∧ (inc ≠ [] → beginSweep c s = issueAvailable opened)
      ∧ (inc = [] → beginSweep c s = completeFrame false false opened)

/-- Issue: while the sequencer is in SWEEP with the N link UP and fewer slots busy than MAX_OUTSTANDING, the lowest
available entry takes the lowest-numbered FREE slot under a new generation with attempts made 1 and joins the back of
the request queue, and the next entry is issued in the same way; with any of the conditions failing none is issued. At
the beginning of a sweep, with every slot FREE, the available entries so take slots 0, 1 and so on, as many as
MAX_OUTSTANDING allows. -/
def Obligations.EntriesAreIssued : Prop :=
  (∀ s : State,
    (s.seq.st = .sweep → s.portN.link = .up → busyCount s.req < s.seq.maxOut → ∀ (e : Fin 64) rest (i : Fin 4),
      s.seq.available = e :: rest → s.req.slots[i].use = .free → (∀ j : Fin 4, j < i → s.req.slots[j].use ≠ .free) →
      issueAvailable s = issueAvailable { s with
        seq.available := rest
        req := { s.req with
          slots := setAt s.req.slots i { use := .queued e 1, gen := s.req.slots[i].gen + 1 }
          firstQ := s.req.firstQ ++ [i]
          ctr.issued := s.req.ctr.issued + 1 } })
    ∧ (s.seq.st ≠ .sweep ∨ s.portN.link = .down ∨ s.seq.maxOut ≤ busyCount s.req ∨ s.seq.available = []
        ∨ (∀ i : Fin 4, s.req.slots[i].use ≠ .free) →
      issueAvailable s = s))
  ∧ ∀ s : State, s.seq.st = .sweep → s.seq.maxOut ≤ 4 → (∀ i : Fin 4, s.req.slots[i].use = .free) →
    let es := s.seq.available
    let m := min s.seq.maxOut es.length
    let u := issueAvailable s
    (s.portN.link = .down → u = s)
      ∧ (s.portN.link = .up →
        u = { s with seq.available := es.drop m, req := u.req }
        ∧ (∀ i : Fin 4, m ≤ i.val → u.req.slots[i] = s.req.slots[i])
        ∧ (∀ (i : Fin 4) (e : Fin 64), i.val < m → es[i.val]? = some e →
          u.req.slots[i] = { use := .queued e 1, gen := s.req.slots[i].gen + 1 })
        ∧ u.req.retryQ = s.req.retryQ
        ∧ u.req.firstQ = s.req.firstQ ++ (List.finRange 4).take m
        ∧ u.req.ctr = { s.req.ctr with issued := s.req.ctr.issued + BitVec.ofNat 32 m })

/-- ARM: a Now above 1 is refused with RANGE, in every state (that this check comes before the state's is the model's
reading of the rule's order: assumption log entry 24, DEDUCED), any state but IDLE with STATE, and an active range
with no enabled entry or with FIRST_ENTRY above LAST_ENTRY with RANGE; accepted, the items are fixed, the Sweep Number
is 0, the latch is empty, and the sequencer waits, in LINK_WAIT with the N link DOWN, where the Now start is latched;
with the link UP and no level gate open, the Now start begins the first sweep; with one gate open and no Now, its
start does; with several starts that meet, the Now start and the open gates' or several gates', either order may be
taken (R132): a free choice names the one (entry 6, DESIGN CHOICE), and a Now start that a gate's start forestalls is
latched. -/
def Obligations.ArmStartsTheArming : Prop :=
  ∀ hdr (now : Word) s, TakesCommands s →
    let t := arrive .h s
    let armable : Prop := ∃ i : Fin 64, t.mgmt.items.firstEntry ≤ i.val ∧ i.val ≤ t.mgmt.items.lastEntry
      ∧ t.seq.scanList[i].enabled = true
    let armed : State := { t with
      seq.mode := t.mgmt.items.sweepMode
      seq.period := t.mgmt.items.sweepPeriod
      seq.maxOut := t.mgmt.items.maxOutstanding
      seq.sweepNo := 0
      seq.latch := none
      seq.stopPending := false
      seq.periodTimer := none
      seq.st := if t.portN.link = .up then .waitStart else .linkWait }
    (1 < now.toNat → exec (.arm hdr [now]) s = .next (pump (answered hdr 9 .range [] t)))
      ∧ (now.toNat ≤ 1 → t.seq.st ≠ .idle → exec (.arm hdr [now]) s = .next (pump (answered hdr 9 .state [] t)))
      ∧ (now.toNat ≤ 1 → t.seq.st = .idle → ¬ armable →
        exec (.arm hdr [now]) s = .next (pump (answered hdr 9 .range [] t)))
      ∧ (t.seq.st = .idle → armable → t.portN.link = .down →
        (now = 0 → exec (.arm hdr [now]) s = .next (pump (answered hdr 9 .ok [] armed)))
        ∧ (now = 1 → exec (.arm hdr [now]) s =
          .next (pump (answered hdr 9 .ok []
            { armed with seq.latch := some .command, seq.ctr.startsLatched := t.seq.ctr.startsLatched + 1 }))))
      ∧ (t.seq.st = .idle → armable → t.portN.link = .up → openGates t = [] →
        (now = 0 → exec (.arm hdr [now]) s = .next (pump (answered hdr 9 .ok [] armed)))
        ∧ (now = 1 → exec (.arm hdr [now]) s =
          .next (pump (answered hdr 9 .ok []
            (settled (beginSweep .command
              { armed with seq.ctr.startsTaken := t.seq.ctr.startsTaken + 1 }))))))
      ∧ (t.seq.st = .idle → armable → t.portN.link = .up → now = 0 → ∀ i : Fin 4, openGates t = [i] →
        exec (.arm hdr [now]) s =
          .next (pump (answered hdr 9 .ok []
            (settled (beginSweep (.trigger (lineSource i))
              (countSource (lineSource i)
                { armed with seq.ctr.startsTaken := t.seq.ctr.startsTaken + 1 }))))))
      ∧ (t.seq.st = .idle → armable → t.portN.link = .up → now.toNat ≤ 1 →
        let meeting : List Contender :=
          (if now = 1 then [.arriving .command] else []) ++ (openGates t).map Contender.level
        let chosen := meeting[Config.freeChoice t.choices % meeting.length]?
        let taken : State := { armed with seq.ctr.startsTaken := t.seq.ctr.startsTaken + 1, choices := t.choices + 1 }
        2 ≤ meeting.length →
        (chosen = some (.arriving .command) →
          exec (.arm hdr [now]) s = .next (pump (answered hdr 9 .ok [] (settled (beginSweep .command taken)))))
        ∧ ∀ i : Fin 4, chosen = some (.level i) →
          (now = 0 → exec (.arm hdr [now]) s =
            .next (pump (answered hdr 9 .ok []
              (settled (beginSweep (.trigger (lineSource i)) (countSource (lineSource i) taken))))))
          ∧ (now = 1 → exec (.arm hdr [now]) s =
            .next (pump (answered hdr 9 .ok []
              (settled (beginSweep (.trigger (lineSource i)) (countSource (lineSource i)
                { taken with
                  seq.latch := some .command
                  seq.ctr.startsLatched := t.seq.ctr.startsLatched + 1 })))))))

/-- STOP and HALT are answered OK in every state and do nothing in IDLE. In the armed states STOP empties the latch
and ends the arming, or marks it to end, as the sequencer state asks; HALT abandons the frame under assembly, frees
every slot with its generation kept, and goes to IDLE with SEQ_IDLE cause HALT. -/
def Obligations.StopAndHaltEndTheArming : Prop :=
  ∀ hdr s, TakesCommands s →
    let t := arrive .h s
    let stopped : State → Prop := fun u => exec (.stop hdr []) s = .next (pump (answered hdr 10 .ok [] u))
    let halted : State → Prop := fun u => exec (.halt hdr []) s = .next (pump (answered hdr 11 .ok [] u))
    let e := latchEmptied t
    (t.seq.st = .idle → stopped t ∧ halted t)
      ∧ (t.seq.st = .waitStart ∨ t.seq.st = .linkWait → stopped (enterIdle .stop e))
      ∧ (t.seq.st = .sweep → stopped { e with seq.stopPending := true })
      ∧ (t.seq.st = .stepPause → stopped (completeFrame false true { e with seq.stopPending := true }))
      ∧ (t.seq.st = .admitWait → ∀ a, t.asm.current = some a →
        stopped { e with seq.stopPending := true, asm.current := some { a with frame.isFinal := true } })
      ∧ (t.seq.st ≠ .idle →
        halted (enterIdle .halt
          { t with
            asm.current := none
            seq.ctr.framesAbandoned := t.seq.ctr.framesAbandoned + (if t.asm.current.isSome then 1 else 0)
            req := { slots := t.req.slots.map (fun x => { x with use := .free }), retryQ := [], firstQ := [],
                     ctr := { t.req.ctr with
                       withdrawn := t.req.ctr.withdrawn + BitVec.ofNat 32 (busyCount t.req) } } }))

/-- Entering IDLE empties and counts the latch, stops the period timer, clears stop-pending and posts SEQ_IDLE (R8,
R16); and the state after an admitted or discarded frame is IDLE with cause STOP when stop-pending is set, else IDLE
with SINGLE_DONE in SINGLE mode, else LINK_WAIT or WAIT_START by the N link (R16). -/
def Obligations.OutcomeDecidesTheState : Prop :=
  ∀ s : State,
    (∀ cause, enterIdle cause s =
        postNotice (.seqIdle cause)
          { latchEmptied s with
            seq.st := .idle
            seq.periodTimer := none
            seq.stopPending := false
            seq.available := []
            seq.remaining := [] })
      ∧ (s.seq.stopPending = true → afterOutcome s = enterIdle .stop s)
      ∧ (s.seq.stopPending = false → s.seq.mode = .single → afterOutcome s = enterIdle .singleDone s)
      ∧ (s.seq.stopPending = false → s.seq.mode ≠ .single →
        afterOutcome s = { s with seq.st := if s.portN.link = .up then .waitStart else .linkWait })

/-- A frame completes with its flags (R15) and meets an admission attempt (R52): it fits when the index holds fewer
than 1,024 frames and its length, with the Gap Count word when the pending gap is not 0, is at most the free words. It
is then admitted under Seq NextSeq with the Gap Count of the pending gap, which returns to 0, and every PENDING
bookmark becomes SET on it; else it is held under HOLD, or discarded under DISCARD with the pending gap raised and
SWEEP_LOST posted. A later attempt for a held frame (R56, R57) is the same, but for a frame that stays held, which
changes nothing and counts nothing. The admitted frame's words stand in the Word Pool from the place behind the frame
admitted before it, the pool's first place following its last, every other place reads as before, and the free words
lie in one run from that place (R65; that the words stand in the order of Table 10-6: assumption log entry 14,
DEDUCED). -/
def Obligations.CompletionMeetsAdmission : Prop :=
  ∀ (s : State) (a : Assembly), s.asm.current = some a →
    let stamped : Frame → Frame := fun f =>
      { f with gap := if s.asm.pendingGap = 0 then none else some s.asm.pendingGap }
    let fits : Frame → Prop := fun f =>
      s.store.frames.length < 1024 ∧ frameLength (stamped f) ≤ 65536 - s.store.occupancy
    let entered : Frame → FrameStore := fun f =>
      let g := stamped f
      { s.store with
        frames := s.store.frames ++ [{ seq := s.store.nextSeq, frame := g, place := s.store.poolNext }]
        occupancy := s.store.occupancy + frameLength g
        poolNext := s.store.poolNext + BitVec.ofNat 16 (frameLength g)
        nextSeq := s.store.nextSeq + 1
        ctr.admitted := s.store.ctr.admitted + 1 }
    let admitted : State → Frame → State := fun u f =>
      let n := s.store.occupancy + frameLength (stamped f)
      let stored : State := { u with asm := { current := none, pendingGap := 0 }, store := entered f }
      let filled : State :=
        if s.store.fill = .normal ∧ s.mgmt.items.fillHigh ≤ n then
          postNotice (.fill .high n)
            { stored with store.fill := .high, store.ctr.highEntries := s.store.ctr.highEntries + 1 }
        else stored
      afterOutcome { filled with
        ret.bookmarks := s.ret.bookmarks.map (fun b => if b = .pending then .set s.store.nextSeq else b) }
    let discarded : State → State := fun u =>
      afterOutcome (postNotice (.sweepLost 1)
        { u with
          asm := { current := none,
                   pendingGap := if s.asm.pendingGap = 0xFFFF#16 then 0xFFFF#16 else s.asm.pendingGap + 1 }
          store.ctr.discarded := s.store.ctr.discarded + 1 })
    (∀ linkDown part : Bool,
      let final : Bool := s.seq.stopPending || decide (s.seq.mode = .single)
      let f : Frame := { a.frame with
        isLinkDown := a.frame.isLinkDown || linkDown
        isPartial := a.frame.isPartial || part
        isFinal := a.frame.isFinal || final }
      let done : State := { s with
        asm.current := some { a with frame := f, complete := true }
        seq.available := []
        seq.remaining := []
        seq.ctr.framesCompleted := s.seq.ctr.framesCompleted + 1 }
      (fits f → completeFrame linkDown part s = admitted done f)
        ∧ (¬ fits f → s.mgmt.items.admitPolicy = .hold →
          completeFrame linkDown part s =
            { done with seq.st := .admitWait, store.ctr.holds := s.store.ctr.holds + 1 })
        ∧ (¬ fits f → s.mgmt.items.admitPolicy = .discard → completeFrame linkDown part s = discarded done))
      ∧ ((fits a.frame → attemptAdmission false s = admitted s a.frame)
        ∧ (¬ fits a.frame → s.mgmt.items.admitPolicy = .hold → attemptAdmission false s = s)
        ∧ (¬ fits a.frame → s.mgmt.items.admitPolicy = .discard → attemptAdmission false s = discarded s))
      ∧ (StoreLaw s →
        (∀ k, k < 65536 →
          (poolWord s.store (s.store.poolNext + BitVec.ofNat 16 k) = none ↔ k < 65536 - s.store.occupancy))
        ∧ ∀ (f : Frame) (x : PoolPlace), fits f →
          let words := framePayload { seq := s.store.nextSeq, frame := stamped f, place := s.store.poolNext }
          let k := (x - s.store.poolNext).toNat
          poolWord (entered f) x = if k < frameLength (stamped f) then words[k]? else poolWord s.store x)

/-- What follows a result that reached the Assembler: the frame completes when every included entry has one; else in
STEP mode the sequencer completes the frame PARTIAL under stop-pending, and enters STEP_PAUSE without it, where it
stays when no start is due (R14); else the next entry is issued. A start that is due on entry to STEP_PAUSE is taken
at once and carries out the next entry: a latched start, which leaves the latch (R8), or the start of an open level
gate, which its source counts (R131); where several meet, either order may be taken (R132) and a free choice names the
one (assumption log entry 6, DESIGN CHOICE): a latched start that a gate's start forestalls stays latched, and on a
later entry with a gate open it meets that gate's start by a new free choice (entry 27, DESIGN CHOICE). -/
def Obligations.ResultMovesTheSweep : Prop :=
  ∀ (s : State) (a : Assembly), s.asm.current = some a →
    let due : List Contender :=
      (match s.seq.latch with
        | some c => [.latched c]
        | none => []) ++ (openGates s).map Contender.level
    let carried : Fin 64 → List (Fin 64) → State := fun e rest =>
      { s with seq.st := .sweep, seq.available := [e], seq.remaining := rest,
               seq.ctr.startsTaken := s.seq.ctr.startsTaken + 1 }
    let counted : Fin 4 → State → State := fun i u =>
      let n := s.trig.ctr.sources[lineSource i]
      { u with trig.ctr.sources :=
          setAt s.trig.ctr.sources (lineSource i) (if n = 0xFFFF#16 then n else n + 1) }
    (a.included.length ≤ a.frame.slots.length → afterResult s = settled (completeFrame false false s))
      ∧ (a.frame.slots.length < a.included.length →
        (s.seq.mode ≠ .step → afterResult s = issueAvailable s)
        ∧ (s.seq.mode = .step → s.seq.stopPending = true → afterResult s = settled (completeFrame false true s))
        ∧ (s.seq.mode = .step → s.seq.stopPending = false → openGates s = [] → s.seq.latch = none →
          afterResult s = { s with seq.st := .stepPause })
        ∧ (s.seq.mode = .step → s.seq.stopPending = false → openGates s = [] → ∀ c e rest,
          s.seq.latch = some c → s.seq.remaining = e :: rest →
          afterResult s = issueAvailable { carried e rest with seq.latch := none })
        ∧ (s.seq.mode = .step → s.seq.stopPending = false → s.seq.latch = none → ∀ i e rest,
          openGates s = [i] → s.seq.remaining = e :: rest →
          afterResult s = issueAvailable (counted i (carried e rest)))
        ∧ (s.seq.mode = .step → s.seq.stopPending = false → 2 ≤ due.length → ∀ e rest,
          s.seq.remaining = e :: rest →
          let chosen := due[Config.freeChoice s.choices % due.length]?
          (∀ c, chosen = some (.latched c) →
            afterResult s = issueAvailable { carried e rest with seq.latch := none, choices := s.choices + 1 })
          ∧ ∀ i, chosen = some (.level i) →
            afterResult s = issueAvailable { counted i (carried e rest) with choices := s.choices + 1 }))

/-- What a step does once the sequencer has entered WAIT_START (the word `settled`): a latched start that is due is
taken with its cause (R8); with the timer running, SWEEP_PERIOD 0 and an empty latch, a PERIOD start is delivered
(R13); an open level gate offers its source's start, and the source counts it (R131); where several of these meet,
either order may be taken (R132) and a free choice names the one (assumption log entry 6, DESIGN CHOICE): a latched
start that a gate's start forestalls stays latched, and on a later entry with a gate open it meets that gate's start
by a new free choice (entry 27, DESIGN CHOICE); a PERIOD start that is forestalled is latched; with none due, and in
any other state, nothing is done. The start taken begins a sweep, and the same goes on from the state it leaves. The
cascade always ends: with every Divisor from 1 to 255 and an enabled entry in the active range, no start is left due
in WAIT_START (the bound is the model's, entry 9, DEDUCED). -/
def Obligations.SweepCascadeSettles : Prop :=
  ∀ s : State, TableLaw s → (∃ n i, Included s n i) →
    let due : List Contender :=
      (match s.seq.latch with
        | some c => [.latched c]
        | none => if s.seq.periodTimer ≠ none ∧ s.seq.period = 0 then [.arriving .period] else [])
      ++ (openGates s).map Contender.level
    let begun : Contender → State → State := fun x u =>
      let taken : State := { u with seq.ctr.startsTaken := s.seq.ctr.startsTaken + 1 }
      match x with
      | .latched c => beginSweep c { taken with seq.latch := none }
      | .arriving c => beginSweep c taken
      | .level i =>
        beginSweep (.trigger (lineSource i)) (countSource (lineSource i)
          (if Contender.arriving .period ∈ due then
            { taken with
              seq.latch := some .period
              seq.ctr.startsLatched := s.seq.ctr.startsLatched + 1 }
          else taken))
    (∀ i : Fin 4, i ∈ openGates s ↔
        (s.trig.map[i.val].detection = .high ∧ s.trig.lines[i].seen = some .high)
          ∨ (s.trig.map[i.val].detection = .low ∧ s.trig.lines[i].seen = some .low))
      ∧ (s.seq.st ≠ .waitStart ∨ due = [] → settled s = s)
      ∧ (s.seq.st = .waitStart → ∀ x, due = [x] → settled s = settled (begun x s))
      ∧ (s.seq.st = .waitStart → 2 ≤ due.length → ∀ x, due[Config.freeChoice s.choices % due.length]? = some x →
        settled s = settled (begun x { s with choices := s.choices + 1 }))
      ∧ let u := settled s
        u.seq.st = .waitStart → contenders (periodOnEntry u) u = []

/-! ### Retention and delivery -/

/-- R105: CREDIT of 1 to 255 raises the credit by the grant, held at 255, and answers the credit after it; a grant of
0 or above 255 is refused with RANGE and answers the credit as it stands. -/
def Obligations.CreditIsGranted : Prop :=
  ∀ hdr (n : Word) s, TakesCommands s →
    let t := arrive .h s
    let c := if 255 < t.del.credit + n.toNat then 255 else t.del.credit + n.toNat
    (1 ≤ n.toNat → n.toNat ≤ 255 →
        exec (.credit hdr [n]) s = .next (pump (answered hdr 13 .ok [natWord c] { t with del.credit := c })))
      ∧ (n.toNat = 0 ∨ 255 < n.toNat →
        exec (.credit hdr [n]) s = .next (pump (answered hdr 13 .range [natWord t.del.credit] t)))

/-- R86: ACK(n), by the first row of Table 5-2 that applies, answers AckedThrough and the floor as they stand after
it. -/
def Obligations.AckMovesAckedThrough : Prop :=
  ∀ hdr (hi lo : Word) s, TakesCommands s →
    let t := arrive .h s
    let n : SeqNum := hi ++ lo
    let d := dist t.store.nextSeq
    let report : State → List Word := fun u => word32Words u.ret.ackedThrough ++ word32Words u.ret.floor
    let ahead : Prop := ¬ (1 ≤ d n ∧ d n ≤ 2147483648) ∨ d n < d (t.del.liveCursor - 1)
    let u := refloor { t with ret.ackedThrough := n }
    (t.mgmt.items.retainMode = .sent →
        exec (.ack hdr [hi, lo]) s = .next (pump (answered hdr 14 .state (report t) t)))
      ∧ (t.mgmt.items.retainMode = .acked → ahead →
        exec (.ack hdr [hi, lo]) s = .next (pump (answered hdr 14 .ahead (report t) t)))
      ∧ (t.mgmt.items.retainMode = .acked → ¬ ahead → d t.ret.ackedThrough ≤ d n →
        exec (.ack hdr [hi, lo]) s = .next (pump (answered hdr 14 .duplicate (report t) t)))
      ∧ (t.mgmt.items.retainMode = .acked → ¬ ahead → d n < d t.ret.ackedThrough →
        exec (.ack hdr [hi, lo]) s = .next (pump (answered hdr 14 .ok (report u) u)))

/-- The retention floor, computed afresh, is the oldest of its candidates by distance: AckedThrough + 1 in ACKED mode
or the LiveCursor in SENT mode, the target of each SET bookmark, and the cursor of an ACTIVE session. -/
def Obligations.FloorIsOldestCandidate : Prop :=
  ∀ s : State,
    let ack := if s.mgmt.items.retainMode = .acked then s.ret.ackedThrough + 1 else s.del.liveCursor
    let candidate : SeqNum → Prop := fun n =>
      n = ack ∨ (∃ b : Fin 8, s.ret.bookmarks[b] = .set n) ∨ ∃ x ∈ s.del.session, x.cursor = n
    (∀ n, candidate n → dist s.store.nextSeq n ≤ 2147483648) →
    candidate (refloor s).ret.floor
      ∧ (∀ n, candidate n → dist s.store.nextSeq n ≤ dist s.store.nextSeq (refloor s).ret.floor)
      ∧ refloor s = { s with ret.floor := (refloor s).ret.floor }

/-- MARK_SET sets a bookmark on the oldest frame, the newest or a stored frame n, whatever its state, and answers the
target, the state before and the floor after; every other use is refused with RANGE. MARK_CLEAR makes a bookmark FREE
and answers the state before and the floor after. Both compute the floor afresh and change nothing else. -/
def Obligations.MarkSetAndClear : Prop :=
  ∀ hdr (w kind hi lo : Word) s, TakesCommands s →
    let t := arrive .h s
    let n : SeqNum := hi ++ lo
    let c := t.store.frames.length
    let named : SeqNum → Prop := fun x =>
      (kind = 0 ∧ x = t.store.nextSeq - BitVec.ofNat 32 c) ∨ (kind = 1 ∧ x = t.store.nextSeq - 1)
        ∨ (kind = 2 ∧ x = n ∧ 1 ≤ dist t.store.nextSeq n ∧ dist t.store.nextSeq n ≤ c)
    (∀ (b : Fin 8) x, w.toNat = b.val → 0 < c → c ≤ 1024 → named x →
        let u := refloor { t with ret.bookmarks := setAt t.ret.bookmarks b (.set x) }
        exec (.markSet hdr [w, kind, hi, lo]) s =
          .next (pump (answered hdr 15 .ok
            (word32Words x ++ [bookmarkWord t.ret.bookmarks[b]] ++ word32Words u.ret.floor) u)))
      ∧ (c ≤ 1024 → (7 < w.toNat ∨ c = 0 ∨ ∀ x, ¬ named x) →
        exec (.markSet hdr [w, kind, hi, lo]) s = .next (pump (answered hdr 15 .range [] t)))
      ∧ (∀ b : Fin 8, w.toNat = b.val →
        let u := refloor { t with ret.bookmarks := setAt t.ret.bookmarks b .free }
        exec (.markClear hdr [w]) s =
          .next (pump (answered hdr 16 .ok (bookmarkWord t.ret.bookmarks[b] :: word32Words u.ret.floor) u)))
      ∧ (7 < w.toNat → exec (.markClear hdr [w]) s = .next (pump (answered hdr 16 .range [] t)))

/-- A MARK action on a FREE bookmark is counted as taken and makes it PENDING under MARK_PRE 0 or on an empty store,
else SET on NextSeq − k, or on the oldest frame, NextSeq − c, when the store holds fewer than k frames, with the floor
computed afresh; on a bookmark PENDING or SET it is refused, counted, and changes nothing else. -/
def Obligations.MarkActionTakesFreeBookmark : Prop :=
  ∀ (b : Fin 8) (s : State),
    let k := s.mgmt.items.markPre
    let c := s.store.frames.length
    let taken : Bookmark → State := fun x =>
      refloor { s with
        ret.bookmarks := setAt s.ret.bookmarks b x
        trig.ctr.marksTaken := s.trig.ctr.marksTaken + 1 }
    (s.ret.bookmarks[b] = .free → (k = 0 ∨ c = 0) → markAction b s = taken .pending)
      ∧ (s.ret.bookmarks[b] = .free → 1 ≤ k → k ≤ c →
        markAction b s = taken (.set (s.store.nextSeq - BitVec.ofNat 32 k)))
      ∧ (s.ret.bookmarks[b] = .free → 1 ≤ c → c < k →
        markAction b s = taken (.set (s.store.nextSeq - BitVec.ofNat 32 c)))
      ∧ (s.ret.bookmarks[b] ≠ .free →
        markAction b s = { s with trig.ctr.markRefusals := s.trig.ctr.markRefusals + 1 })

/-- REPLAY, by the first row of Table 6-1 that applies: BUSY reports the active session; RANGE and STATE report zeros;
accepted, the session opens at its start, ends after count frames or at the newest, with frames sent 0, the opening
counted and the floor computed afresh. -/
def Obligations.ReplayOpensASession : Prop :=
  ∀ hdr (kind w hi lo count : Word) s, TakesCommands s →
    let t := arrive .h s
    let n : SeqNum := hi ++ lo
    let c := t.store.frames.length
    let d := dist t.store.nextSeq
    let cmd : Instr := .replay hdr [kind, w, hi, lo, count]
    let zeros : List Word := [0, 0, 0, 0, 0, 0]
    let inRange : Prop := kind.toNat ≤ 2 ∧ (kind = 0 → w.toNat ≤ 7) ∧ count.toNat ≤ 1024
    let start : SeqNum → Prop := fun x =>
      (kind = 0 ∧ ∃ b : Fin 8, b.val = w.toNat ∧ t.ret.bookmarks[b] = .set x)
        ∨ (kind = 1 ∧ x = t.store.nextSeq - BitVec.ofNat 32 c)
        ∨ (kind = 2 ∧ x = n ∧ 1 ≤ d n ∧ d n ≤ c)
    (∀ x, t.del.session = some x → exec cmd s =
        .next (pump (answered hdr 18 .busy
          (word32Words x.cursor ++ word32Words x.last ++ [natWord x.frames, natWord t.del.framesSent]) t)))
      ∧ (t.del.session = none → ¬ inRange → exec cmd s = .next (pump (answered hdr 18 .range zeros t)))
      ∧ (t.del.session = none → inRange → c = 0 → exec cmd s = .next (pump (answered hdr 18 .state zeros t)))
      ∧ (t.del.session = none → inRange → 1 ≤ c → c ≤ 1024 → (∀ x, ¬ start x) →
        exec cmd s = .next (pump (answered hdr 18 .range zeros t)))
      ∧ (t.del.session = none → inRange → 1 ≤ c → c ≤ 1024 → ∀ x, start x →
        let last := if count = 0 ∨ d x ≤ count.toNat then t.store.nextSeq - 1
          else x + BitVec.ofNat 32 count.toNat - 1
        let opened : Session := { cursor := x, last := last, frames := d x - d last + 1 }
        exec cmd s =
          .next (pump (answered hdr 18 .ok
            (word32Words x ++ word32Words last ++ [natWord opened.frames, 0])
            (refloor { t with
              del.session := some opened
              del.framesSent := 0
              del.ctr.opened := t.del.ctr.opened + 1 }))))

/-- R115: REPLAY_ABORT ends an ACTIVE session with cause ABORT and answers its frames sent; with no session ACTIVE it
is refused with STATE and answers the frames sent by the last one. -/
def Obligations.ReplayAbortEndsTheSession : Prop :=
  ∀ hdr s, TakesCommands s →
    let t := arrive .h s
    (t.del.session ≠ none → exec (.replayAbort hdr []) s =
        .next (pump (answered hdr 19 .ok [natWord t.del.framesSent] (sessionEnded .abort t))))
      ∧ (t.del.session = none → exec (.replayAbort hdr []) s =
        .next (pump (answered hdr 19 .state [natWord t.del.framesSent] t)))

/-! ### Whole-part commands -/

/-- FLUSH halts an armed sequencer as HALT does (the frame under assembly abandoned and counted, the slots freed and
counted as withdrawn with the request queue empty, the latch emptied and counted, the period timer stopped,
stop-pending clear, IDLE), empties the store, frees the bookmarks, sets AckedThrough to NextSeq − 1 and the LiveCursor
and the floor to NextSeq, ends an ACTIVE session and clears the pending gap; it posts SEQ_IDLE, FILL and REPLAY_END in
that order, each where it applies; it keeps NextSeq, the credit, the tables, the items, the Time Base, the forward
queues and the Response Queue; and it is answered OK. (That the place of the next frame's words stays: assumption log
entry 26, DEDUCED.) -/
def Obligations.FlushEmptiesTheStore : Prop :=
  ∀ hdr s, TakesCommands s →
    let t := arrive .h s
    let p1 := if t.seq.st = .idle then t else postNotice (.seqIdle .flush) t
    let p2 := if t.store.fill = .high then postNotice (.fill .normal 0) p1 else p1
    let p3 := if t.del.session = none then p2 else postNotice (.replayEnd .flush t.del.framesSent) p2
    ∃ u, exec (.flush hdr []) s = .next (pump (answered hdr 22 .ok [] u))
      ∧ u.store = { t.store with
          frames := [], occupancy := 0, fill := .normal,
          ctr := { t.store.ctr with
            flushed := t.store.ctr.flushed + BitVec.ofNat 32 t.store.frames.length } }
      ∧ u.ret = { ackedThrough := t.store.nextSeq - 1, bookmarks := Vector.replicate 8 .free,
                  floor := t.store.nextSeq }
      ∧ u.del = { t.del with
          liveCursor := t.store.nextSeq, session := none,
          ctr := { t.del.ctr with
            endedLinkFlush := t.del.ctr.endedLinkFlush + (if t.del.session = none then 0 else 1) } }
      ∧ u.mgmt = { p3.mgmt with ctr := { p3.mgmt.ctr with resets := t.mgmt.ctr.resets + 1 } }
      ∧ u.asm.pendingGap = 0
      ∧ (t.seq.st ≠ .idle → u.asm.current = none
          ∧ u.seq = { t.seq with
              st := .idle, periodTimer := none, latch := none, stopPending := false, available := [], remaining := [],
              ctr := { t.seq.ctr with
                framesAbandoned := t.seq.ctr.framesAbandoned + (if t.asm.current = none then 0 else 1)
                latchedCleared := t.seq.ctr.latchedCleared + (if t.seq.latch = none then 0 else 1) } }
          ∧ u.req = { slots := t.req.slots.map (fun x => { x with use := .free }), retryQ := [], firstQ := [],
                      ctr := { t.req.ctr with
                        withdrawn := t.req.ctr.withdrawn + BitVec.ofNat 32 (busyCount t.req) } })
      ∧ (t.seq.st = .idle → u.seq = t.seq ∧ u.req = t.req ∧ u.asm.current = t.asm.current)
      ∧ (u.seq.scanList = t.seq.scanList ∧ u.seq.sweepNo = t.seq.sweepNo ∧ u.trig = t.trig ∧ u.fwd = t.fwd
          ∧ u.portH = t.portH ∧ u.portN = t.portN ∧ u.frameTurn = t.frameTurn ∧ u.sourceTurn = t.sourceTurn
          ∧ u.held = t.held ∧ u.choices = t.choices ∧ u.pending = t.pending)

/-- RESET returns every block to its values after reset but for the links, the transmissions in progress and the seen
levels, which run on; it queues RESTART with cause COMMAND alone and no response (its Posted At is 0: DEDUCED,
assumption log entry 10; the copies that ARM fixes, the place 0 of the first frame's words and the model's two fields:
DESIGN CHOICE, entries 7, 26 and 8). -/
def Obligations.ResetKeepsTheLinks : Prop :=
  ∀ hdr s, TakesCommands s →
    let t := arrive .h s
    exec (.reset hdr []) s =
      .next (pump { State.reset with
        portH := { t.portH with ctr := PortCounters.zero }
        portN := { t.portN with ctr := PortCounters.zero }
        trig.lines := t.trig.lines.map (fun l => { seen := l.seen, ref := l.seen })
        mgmt.noticeQ := [{ postedAt := 0, body := .restart .command }]
        mgmt.ctr := { CmdCounters.zero with posted := 1, resets := 1 }
        choices := t.choices
        pending := t.pending })

/-! ### Requests -/

/-- An SREP is matched by its Tag alone against the slots in AWAIT. Matched, a good reply resolves the slot OK with
its samples, a malformed one MALFORMED and a NOCHAN one NOCHAN; a BUSY reply retries the slot while attempts made are
not above the entry's Retries, else resolves it BUSY. Any other SREP is stale, is counted and changes no slot. A
result that reaches the Assembler takes a frame slot at its entry's place: the slots keep their ascending entry order,
every other slot stays, and nothing else changes. -/
def Obligations.ReplyResolvesOrRetries : Prop :=
  (∀ (x : FrameSlot) (a : Assembly) (s : State), s.asm.current = some a →
    (slotEntries a.frame.slots).Pairwise (· < ·) → x.entry ∉ slotEntries a.frame.slots →
    ∃ xs : List FrameSlot, xs.Perm (x :: a.frame.slots) ∧ (slotEntries xs).Pairwise (· < ·)
      ∧ giveResult x s = { s with asm.current := some { a with frame.slots := xs } })
  ∧ ∀ (hdr : Header) (payload : List Word) (s : State), s.held = none →
    let t := arrive .n s
    let i := tagSlot hdr.tag
    let matched : State := { t with req.ctr.matched := t.req.ctr.matched + 1 }
    let busied : State := { matched with req.ctr.busyReplies := t.req.ctr.busyReplies + 1 }
    let resolved : State → Fin 64 → SlotResult → State := fun u e res =>
      afterResult (giveResult { entry := e, result := res }
        { u with
          req.slots := setAt t.req.slots i { use := .free, gen := t.req.slots[i].gen }
          req.ctr.delivered := t.req.ctr.delivered + 1 })
    ((∀ e attempts timer, t.req.slots[i] ≠ { use := .await e attempts timer, gen := tagGen hdr.tag }) →
        exec (.srepReceived hdr payload) s =
          .next (pump { t with req.ctr.staleReplies := t.req.ctr.staleReplies + 1 }))
      ∧ ∀ e attempts timer, t.req.slots[i] = { use := .await e attempts timer, gen := tagGen hdr.tag } →
        let entry := t.seq.scanList[e]
        (∀ ch count status samples, payload = ch :: count :: status :: samples →
          (status = 0 → ch.toNat = entry.channel.toNat → count.toNat = entry.count → samples.length = entry.count →
            exec (.srepReceived hdr payload) s = .next (pump (resolved matched e (.ok samples))))
          ∧ (status = 0 →
            ch.toNat ≠ entry.channel.toNat ∨ count.toNat ≠ entry.count ∨ samples.length ≠ entry.count →
            exec (.srepReceived hdr payload) s = .next (pump (resolved matched e .malformed)))
          ∧ (status = 2 → exec (.srepReceived hdr payload) s = .next (pump (resolved matched e .nochan)))
          ∧ (2 < status.toNat → exec (.srepReceived hdr payload) s = .next (pump (resolved matched e .malformed)))
          ∧ (status = 1 → attempts ≤ entry.retries →
            exec (.srepReceived hdr payload) s =
              .next (pump { busied with
                req.slots := setAt t.req.slots i { use := .queued e (attempts + 1), gen := t.req.slots[i].gen + 1 }
                req.retryQ := t.req.retryQ ++ [i]
                req.ctr.retries := t.req.ctr.retries + 1 }))
          ∧ (status = 1 → entry.retries < attempts →
            exec (.srepReceived hdr payload) s = .next (pump (resolved busied e .busy))))
        ∧ (payload.length < 3 → exec (.srepReceived hdr payload) s = .next (pump (resolved matched e .malformed)))

/-- A tick raises the Time Base by 1; the period timer, each AWAIT slot's timer, each UP link's silence timer and each
free transmitter's keepalive count lose one tick; nothing else moves (that a timer at 0 waits there for its expiry is
the model's, assumption log entry 4). When a slot's timer expires, the slot is retried under a new generation while
attempts made are not above the entry's Retries, else resolved TIMEOUT. When the period timer expires it reloads and
delivers a PERIOD start. -/
def Obligations.TimersTickAndExpire : Prop :=
  ∀ s : State, s.held = none →
    let slot : Slot → Slot := fun x =>
      match x.use with
      | .await e a r => { x with use := .await e a (r - 1) }
      | _ => x
    let port : PortBlock → PortBlock := fun b =>
      { b with
        silence := if b.link = .up then b.silence - 1 else b.silence
        keepalive := if b.tx = none then b.keepalive - 1 else b.keepalive }
    (∀ (i : Fin 4) e attempts gen, s.req.slots[i] = { use := .await e attempts 0, gen := gen } →
        let expired : State := { s with req.ctr.timerExpiries := s.req.ctr.timerExpiries + 1 }
        (attempts ≤ s.seq.scanList[e].retries → exec (.slotTimerExpiry i) s =
          .next (pump { expired with
            req.slots := setAt s.req.slots i { use := .queued e (attempts + 1), gen := gen + 1 }
            req.retryQ := s.req.retryQ ++ [i]
            req.ctr.retries := s.req.ctr.retries + 1 }))
        ∧ (s.seq.scanList[e].retries < attempts → exec (.slotTimerExpiry i) s =
          .next (pump (afterResult (giveResult { entry := e, result := .timeout }
            { expired with
              req.slots := setAt s.req.slots i { use := .free, gen := gen }
              req.ctr.delivered := s.req.ctr.delivered + 1 })))))
      ∧ (s.seq.periodTimer = some 0 → s.seq.period ≠ 0 → exec .periodTimerExpiry s =
        .next (pump (deliverStart .period { s with seq.periodTimer := some s.seq.period }).2))
      ∧ exec .timeBaseTick s =
        .next { s with
          mgmt.timeBase := s.mgmt.timeBase + 1
          seq.periodTimer := s.seq.periodTimer.map (fun r => r - 1)
          req.slots := s.req.slots.map slot
          portH := port s.portH
          portN := port s.portN }

/-! ### Loss of a link -/

/-- When the H silence timer expires the H link goes DOWN: the packet in transmission is cut off and counted, the
credit becomes 0, an ACTIVE session ends with cause LINK, the Response Queue and FQ-H are emptied and counted,
FWD_DROP and REPLAY_END are posted where they apply, in either order (assumption log entry 6, DESIGN CHOICE), and the
store, the LiveCursor and the schedule stay as they are. That the keepalive count is set to 10 with no packet cut off
as well is the model's reading (entry 11, DEDUCED). -/
def Obligations.HeadLinkLossClearsDelivery : Prop :=
  ∀ s : State, s.held = none → s.portH.link = .up → s.portH.silence = 0 →
    let frame : Bool := match s.portH.tx with
      | some p => decide (p.kind = kindSWF ∨ p.kind = kindRPF)
      | none => false
    let k := s.fwd.fqH.length
    let drop : State → State := fun u => if k = 0 then u else postNotice (.fwdDrop (natWord k) 0) u
    let ended : State → State := fun u =>
      if s.del.session = none then u else postNotice (.replayEnd .link s.del.framesSent) u
    ∃ u, exec .hSilenceExpiry s = .next (pumpN u)
      ∧ u.portH = { s.portH with
          link := .down, silence := 0, keepalive := 10, tx := none,
          ctr := { s.portH.ctr with
            losses := s.portH.ctr.losses + 1
            cutOff := s.portH.ctr.cutOff + (if s.portH.tx.isSome then 1 else 0) } }
      ∧ u.del = { s.del with
          credit := 0, session := none,
          ctr := { s.del.ctr with
            framesCut := s.del.ctr.framesCut + (if frame then 1 else 0)
            endedLinkFlush := s.del.ctr.endedLinkFlush + (if s.del.session = none then 0 else 1) } }
      ∧ u.fwd = { s.fwd with
          fqH := [], ctr := { s.fwd.ctr with hDropLink := s.fwd.ctr.hDropLink + BitVec.ofNat 32 k } }
      ∧ u.mgmt.respQ = []
      ∧ u.mgmt.ctr.respLost = s.mgmt.ctr.respLost + BitVec.ofNat 32 s.mgmt.respQ.length
      ∧ (u.mgmt.noticeQ = (ended (drop s)).mgmt.noticeQ ∨ u.mgmt.noticeQ = (drop (ended s)).mgmt.noticeQ)
      ∧ u.mgmt.items = s.mgmt.items ∧ u.mgmt.timeBase = s.mgmt.timeBase
      ∧ u.store = s.store ∧ u.ret.ackedThrough = s.ret.ackedThrough ∧ u.ret.bookmarks = s.ret.bookmarks
      ∧ u.seq = s.seq ∧ u.req = s.req ∧ u.asm = s.asm ∧ u.portN = s.portN ∧ u.trig = s.trig
      ∧ u.frameTurn = s.frameTurn ∧ u.sourceTurn = s.sourceTurn ∧ u.held = none ∧ u.pending = s.pending

/-- When the N silence timer expires the N link goes DOWN: LINK_N is posted and FQ-N is emptied and counted in every
state; WAIT_START becomes LINK_WAIT; IDLE and ADMIT_WAIT stay; and in SWEEP or STEP_PAUSE every slot becomes FREE with
its generation kept, every included entry without a result receives LINKDOWN, so that the frame's slots are those of
its included entries in ascending order, the ones that had a result with that result, and the frame completes with the
LINKDOWN flag. (That the keepalive count stays where no packet is cut off, and the order of the notices, are the
model's readings: assumption log entries 11 and 17, DEDUCED.) -/
def Obligations.NodeLinkLossCompletesTheSweep : Prop :=
  ∀ s : State, s.held = none → s.portN.link = .up → s.portN.silence = 0 → RequestPathLaw s →
    let k := s.fwd.fqN.length
    let cut : State := { s with portN := { s.portN with
      link := .down
      silence := 0
      tx := none
      keepalive := if s.portN.tx = none then s.portN.keepalive else 10
      ctr := { s.portN.ctr with
        losses := s.portN.ctr.losses + 1
        cutOff := s.portN.ctr.cutOff + (if s.portN.tx = none then 0 else 1) } } }
    let linked := postNotice (.linkN .down) cut
    let emptied : State :=
      if k = 0 then linked
      else postNotice (.fwdDrop 0 (natWord k))
        { linked with fwd.fqN := [], fwd.ctr.nDropLink := s.fwd.ctr.nDropLink + BitVec.ofNat 32 k }
    (s.seq.st = .idle ∨ s.seq.st = .admitWait → exec .nSilenceExpiry s = .next (pump emptied))
      ∧ (s.seq.st = .waitStart → exec .nSilenceExpiry s = .next (pump { emptied with seq.st := .linkWait }))
      ∧ ∀ a, s.seq.st = .sweep ∨ s.seq.st = .stepPause → s.asm.current = some a →
        let slots : List FrameSlot := a.included.map (fun e =>
          (a.frame.slots.find? (fun x => decide (x.entry = e))).getD { entry := e, result := .linkdown })
        let lost : RequestTable :=
          { slots := s.req.slots.map (fun x => { x with use := .free }), retryQ := [], firstQ := [],
            ctr := { s.req.ctr with
              delivered := s.req.ctr.delivered + BitVec.ofNat 32 (busyCount s.req)
              linkDowns := s.req.ctr.linkDowns + BitVec.ofNat 32 (busyCount s.req) } }
        exec .nSilenceExpiry s =
          .next (pump (completeFrame true false
            { emptied with req := lost, asm.current := some { a with frame.slots := slots } }))

/-! ### The transmitters -/

/-- R118, R119: when the Port H transmitter ends a packet it is free, its keepalive count is set to 10, and with the
link UP it takes the first source that has a packet waiting: the Response Queue, the Notice Queue, FQ-H, then a frame;
with the link DOWN it takes none. -/
def Obligations.HeadTransmissionEnd : Prop :=
  ∀ s : State, s.held = none → s.portH.tx.isSome →
    let free : State := { s with portH := { s.portH with tx := none, keepalive := 10 } }
    let sends : Packet → State := fun p =>
      { s with portH := { s.portH with
          tx := some p, keepalive := 10, ctr := { s.portH.ctr with sent := s.portH.ctr.sent + 1 } } }
    (s.portH.link = .down → exec .hTransmissionEnd s = .next (pumpN free))
      ∧ (s.portH.link = .up →
        (∀ r rest, s.mgmt.respQ = r :: rest → exec .hTransmissionEnd s =
          .next (pumpN { sends (built kindGRSP 0 r.tag (r.code :: statusWord r.status :: r.results)) with
            mgmt.respQ := rest
            mgmt.ctr.respSent := s.mgmt.ctr.respSent + 1 }))
        ∧ (∀ n rest, s.mgmt.respQ = [] → s.mgmt.noticeQ = n :: rest → exec .hTransmissionEnd s =
          .next (pumpN { sends (built kindGNOT 0 0
              (natWord (noticeKind n.body) :: (word32Words n.postedAt ++ noticeFields n.body))) with
            mgmt.noticeQ := rest
            mgmt.ctr.noticesSent := s.mgmt.ctr.noticesSent + 1 }))
        ∧ (∀ p rest, s.mgmt.respQ = [] → s.mgmt.noticeQ = [] → s.fwd.fqH = p :: rest → exec .hTransmissionEnd s =
          .next (pumpN { sends p with fwd.fqH := rest, fwd.ctr.hSent := s.fwd.ctr.hSent + 1 }))
        ∧ (s.mgmt.respQ = [] → s.mgmt.noticeQ = [] → s.fwd.fqH = [] →
          exec .hTransmissionEnd s = .next (pumpN (takeFrame free))))

/-- A frame begins transmission only with the H link UP and a credit of at least 1, and consumes exactly one. The SWF
at the LiveCursor raises it, and in SENT mode AckedThrough follows; the RPF at the cursor advances the session or ends
it DONE at its last frame. When both are eligible, the kind not served last goes. -/
def Obligations.FramesTakeTurns : Prop :=
  ∀ s : State,
    let live : StoredFrame → Prop := fun f => s.portH.link = .up ∧ 1 ≤ s.del.credit
      ∧ frameAt s.store s.del.liveCursor = some f
    let replay : Session → StoredFrame → Prop := fun x g => s.portH.link = .up ∧ 1 ≤ s.del.credit
      ∧ s.del.session = some x ∧ frameAt s.store x.cursor = some g
    let sends : Packet → State := fun p =>
      { s with
        portH := { s.portH with tx := some p, ctr := { s.portH.ctr with sent := s.portH.ctr.sent + 1 } }
        del.credit := s.del.credit - 1 }
    let swf : StoredFrame → State := fun f =>
      let u : State := { sends (built kindSWF 0 0 (framePayload f)) with
        del.liveCursor := s.del.liveCursor + 1
        del.ctr.liveSent := s.del.ctr.liveSent + 1
        frameTurn := .live }
      if s.mgmt.items.retainMode = .sent then refloor { u with ret.ackedThrough := s.del.liveCursor } else u
    let rpf : Session → StoredFrame → State := fun x g =>
      let u : State := { sends (built kindRPF 0 0 (framePayload g)) with
        del.framesSent := s.del.framesSent + 1
        del.ctr.replaySent := s.del.ctr.replaySent + 1
        frameTurn := .replay }
      if x.cursor = x.last then sessionEnded .done u
      else refloor { u with del.session := some { x with cursor := x.cursor + 1 } }
    (∀ f, live f → (∀ x g, ¬ replay x g) → takeFrame s = swf f)
      ∧ (∀ x g, replay x g → (∀ f, ¬ live f) → takeFrame s = rpf x g)
      ∧ (∀ f x g, live f → replay x g → s.frameTurn = .replay → takeFrame s = swf f)
      ∧ (∀ f x g, live f → replay x g → s.frameTurn = .live → takeFrame s = rpf x g)
      ∧ ((∀ f, ¬ live f) → (∀ x g, ¬ replay x g) → takeFrame s = s)

/-- When the Port N transmitter ends a packet it is free, its keepalive count is set to 10, and with the link UP it
takes from the request queue or from FQ-N, from the one not served last when both wait: an SREQ puts its slot in AWAIT
with the entry's Timeout, a forwarded packet goes out unchanged. -/
def Obligations.NodeTransmissionEnd : Prop :=
  ∀ s : State, s.held = none → s.portN.tx.isSome →
    let h := pumpH s
    let free : State := { h with portN := { s.portN with tx := none, keepalive := 10 } }
    let sends : Packet → LinkSource → State := fun p src =>
      { h with
        portN := { s.portN with
          tx := some p, keepalive := 10, ctr := { s.portN.ctr with sent := s.portN.ctr.sent + 1 } }
        sourceTurn := src }
    let asks : Fin 4 → Fin 64 → Nat → State := fun i e attempts =>
      { sends (built kindSREQ s.seq.scanList[e].node (slotTag i s.req.slots[i].gen)
            [natWord s.seq.scanList[e].channel.toNat, natWord s.seq.scanList[e].count]) .request with
        req := { s.req with
          slots := setAt s.req.slots i
            { use := .await e attempts s.seq.scanList[e].timeout, gen := s.req.slots[i].gen }
          retryQ := s.req.retryQ.erase i
          firstQ := s.req.firstQ.erase i
          ctr := { s.req.ctr with transmitted := s.req.ctr.transmitted + 1 } } }
    let forwards : Packet → List Packet → State := fun p rest =>
      { sends p .forward with
        fwd.fqN := rest
        fwd.ctr := { h.fwd.ctr with nSent := s.fwd.ctr.nSent + 1 } }
    (s.portN.link = .down → exec .nTransmissionEnd s = .next free)
      ∧ (s.portN.link = .up →
        (requestQueue s.req = [] → s.fwd.fqN = [] → exec .nTransmissionEnd s = .next free)
        ∧ (∀ i rest e attempts, requestQueue s.req = i :: rest → s.req.slots[i].use = .queued e attempts →
          (s.fwd.fqN = [] ∨ s.sourceTurn = .forward) → exec .nTransmissionEnd s = .next (asks i e attempts))
        ∧ (∀ p rest, s.fwd.fqN = p :: rest → (requestQueue s.req = [] ∨ s.sourceTurn = .request) →
          exec .nTransmissionEnd s = .next (forwards p rest)))

/-- A port whose transmitter is free, whose keepalive count is 0 and for which nothing waits begins an IDLE packet: to
the head with Dest 0, to the nodes with Dest 31; it is counted among the packets sent and touches nothing else. -/
def Obligations.KeepaliveSendsIdle : Prop :=
  ∀ s : State, s.held = none → RequestQueueLaw s →
    (s.portH.tx = none → s.portH.keepalive = 0 → (s.portH.link = .down ∨ takeH s = s) →
        exec .hKeepaliveExpiry s =
          .next { pumpN s with portH := { s.portH with
            tx := some { kind := 0, dest := 0, hdr := { src := 30, spare0 := 0, tag := 0, spare1 := 0 }, payload := [] }
            ctr := { s.portH.ctr with sent := s.portH.ctr.sent + 1 } } })
      ∧ (s.portN.tx = none → s.portN.keepalive = 0 →
        (s.portN.link = .down ∨ (requestQueue s.req = [] ∧ s.fwd.fqN = [])) →
        exec .nKeepaliveExpiry s =
          .next { pumpH s with portN := { s.portN with
            tx := some { kind := 0, dest := 31, hdr := { src := 30, spare0 := 0, tag := 0, spare1 := 0 }, payload := [] }
            ctr := { s.portN.ctr with sent := s.portN.ctr.sent + 1 } } })

/-! ### Traffic that passes through, events and triggers -/

/-- A packet for a forward queue joins at its back while the queue has a place and the far link is UP, and is
otherwise dropped, counted as a drop with the queue full or with the link DOWN, and reported by FWD_DROP; the packet
is kept word for word. -/
def Obligations.ForwardingJoinsOrDrops : Prop :=
  ∀ (hdr : Header) (payload : List Word) (s : State), s.held = none →
    (∀ kind dest, (1 ≤ dest.toNat ∧ dest.toNat ≤ 29 ∨ dest.toNat = 31) →
        let t := arrive .h s
        let c : Instr := .forwardToNodes kind dest hdr payload
        let p : Packet := { kind := if kind = .ncmd then 3 else 1, dest := dest, hdr := hdr, payload := payload }
        (t.portN.link = .up → t.fwd.fqN.length < 8 → exec c s =
          .next (pump { t with fwd.fqN := t.fwd.fqN ++ [p], fwd.ctr.nAccepted := t.fwd.ctr.nAccepted + 1 }))
        ∧ (t.portN.link = .up → 8 ≤ t.fwd.fqN.length → exec c s =
          .next (pump (postNotice (.fwdDrop 0 1) { t with fwd.ctr.nDropFull := t.fwd.ctr.nDropFull + 1 })))
        ∧ (t.portN.link = .down → exec c s =
          .next (pump (postNotice (.fwdDrop 0 1) { t with fwd.ctr.nDropLink := t.fwd.ctr.nDropLink + 1 }))))
      ∧ ∀ kind,
        let t := arrive .n s
        let c : Instr := .forwardToHead kind hdr payload
        let p : Packet := { kind := if kind = .srep then 2 else 4, dest := 0, hdr := hdr, payload := payload }
        (t.portH.link = .up → t.fwd.fqH.length < 16 → exec c s =
          .next (pump { t with fwd.fqH := t.fwd.fqH ++ [p], fwd.ctr.hAccepted := t.fwd.ctr.hAccepted + 1 }))
        ∧ (t.portH.link = .up → 16 ≤ t.fwd.fqH.length → exec c s =
          .next (pump (postNotice (.fwdDrop 1 0) { t with fwd.ctr.hDropFull := t.fwd.ctr.hDropFull + 1 })))
        ∧ (t.portH.link = .down → exec c s =
          .next (pump (postNotice (.fwdDrop 1 0) { t with fwd.ctr.hDropLink := t.fwd.ctr.hDropLink + 1 })))

/-- A node event is discarded as malformed when its Length is 0 or above 9 or its code is above 255; else the
lowest-numbered enabled entry that matches its Src and its code under the mask is hit, delivers its trigger and its
mark, in that order (the model's reading where both mark one bookmark: assumption log entry 17, DEDUCED), and decides
by its Verdict whether the packet is offered to FQ-H; with no such entry EVENT_DEFAULT decides. -/
def Obligations.EventIsFiltered : Prop :=
  ∀ (hdr : Header) (payload : List Word) (s : State), s.held = none →
    let t := arrive .n s
    let c : Instr := .nevtReceived hdr payload
    let p : Packet := { kind := 5, dest := 0, hdr := hdr, payload := payload }
    let hit : Fin 32 → Prop := fun i =>
      t.fwd.table[i].enabled = true ∧ (t.fwd.table[i].node = 0 ∨ t.fwd.table[i].node = hdr.src)
        ∧ ∀ b < 8, t.fwd.table[i].mask.getLsbD b = true →
          (payload.headD 0).getLsbD b = t.fwd.table[i].code.getLsbD b
    let decided : Verdict → State → State := fun v u =>
      match v with
      | .pass => offerFqH p { u with fwd.ctr.evPassed := u.fwd.ctr.evPassed + 1 }
      | .drop => { u with fwd.ctr.evDropped := u.fwd.ctr.evDropped + 1 }
    let bump : Word → Word := fun w => if w = 0xFFFF#16 then w else w + 1
    (payload.length = 0 ∨ 9 < payload.length ∨ 255 < (payload.headD 0).toNat → exec c s =
        .next (pump { t with fwd.ctr.evMalformed := t.fwd.ctr.evMalformed + 1 }))
      ∧ (1 ≤ payload.length → payload.length ≤ 9 → (payload.headD 0).toNat ≤ 255 →
        (∀ i : Fin 32, hit i → (∀ j : Fin 32, j < i → ¬ hit j) →
          let e := t.fwd.table[i]
          let counted : State :=
            { t with fwd.table := setAt t.fwd.table i { e with hits := bump e.hits } }
          let fired : State := match e.trigger with
            | none => counted
            | some x => fireSource (softIndex x)
                { counted with fwd.ctr.trigEffects := t.fwd.ctr.trigEffects + 1 }
          let marked : State := match e.mark with
            | none => fired
            | some b => markAction b { fired with fwd.ctr.markEffects := fired.fwd.ctr.markEffects + 1 }
          exec c s = .next (pump (decided e.verdict marked)))
        ∧ ((∀ i : Fin 32, ¬ hit i) → exec c s =
          .next (pump (decided t.mgmt.items.eventDefault { t with fwd.defaultHits := bump t.fwd.defaultHits }))))

/-- A TRIG packet is counted by its link and fires its soft source: the source's count rises, stopping at 65,535, and
the action its entry holds is delivered once: none, a start with its number as cause, a STOP, a HALT or a MARK. -/
def Obligations.SoftTriggerFires : Prop :=
  ∀ (port : Port) (hdr : Header) (x : SoftSource) (s : State), s.held = none →
    let t := arrive port s
    let i := softIndex x
    let n := t.trig.ctr.sources[i]
    let u : State := { t with
      trig.ctr.sources := setAt t.trig.ctr.sources i (if n = 0xFFFF#16 then n else n + 1)
      trig.ctr.fromHead := t.trig.ctr.fromHead + (if port = .h then 1 else 0)
      trig.ctr.fromNodes := t.trig.ctr.fromNodes + (if port = .n then 1 else 0) }
    let e := t.trig.map[i]
    exec (.trigReceived port hdr x) s =
      .next (pump (match e.action with
        | .none => u
        | .start => (deliverStart (.trigger i) u).2
        | .stop => stopSequencer u
        | .halt => haltSequencer .halt u
        | .mark => markAction e.bookmark u))

/-- A change of a line's seen level: the first level a line takes, and the level it already has, fire nothing; a
change fires an edge source of the selected sense and no other: the source's count rises, stopping at 65,535, and the
action its entry holds is delivered once (none, a start with its number as cause, a STOP, a HALT or a MARK); a change
that falls together with a TMAP_WRITE of the line taken first is already inside the reference and fires nothing; the
level becomes the reference; and a level source whose gate has opened offers a start, which WAIT_START and STEP_PAUSE
alone take and which alone counts it. (That a level already seen is no change and that the first seen level opens a
gate: assumption log entry 21, DEDUCED; that the command says whether it fell together with a write: entry 25, DESIGN
CHOICE.) -/
def Obligations.SeenLevelFiresEdgesAndGates : Prop :=
  ∀ (i : Fin 4) (l : Level) (c : ChangeTiming) (s : State), s.held = none →
    let line := s.trig.lines[i]
    let e := s.trig.map[i.val]
    let u : State := { s with trig.lines := setAt s.trig.lines i { seen := some l, ref := some l } }
    let n := s.trig.ctr.sources[lineSource i]
    let counted : State := { u with
      trig.ctr.sources := setAt s.trig.ctr.sources (lineSource i) (if n = 0xFFFF#16 then n else n + 1) }
    let edge : Prop := (e.detection = .rise ∧ l = .high) ∨ (e.detection = .fall ∧ l = .low)
    let gate : Prop := (e.detection = .high ∧ l = .high) ∨ (e.detection = .low ∧ l = .low)
    (line.seen = some l → exec (.seenLevelChange i ⟨l, c⟩) s = .next (pump s))
      ∧ (line.seen ≠ some l → ¬ gate → (line.ref = none ∨ line.ref = some l ∨ ¬ edge ∨ c = .withWrite) →
        exec (.seenLevelChange i ⟨l, c⟩) s = .next (pump u))
      ∧ (line.seen ≠ some l → line.ref ≠ none → line.ref ≠ some l → edge → c = .apart →
        exec (.seenLevelChange i ⟨l, c⟩) s = .next (pump (match e.action with
          | .none => counted
          | .start => (deliverStart (.trigger (lineSource i)) counted).2
          | .stop => stopSequencer counted
          | .halt => haltSequencer .halt counted
          | .mark => markAction e.bookmark counted)))
      ∧ (line.seen ≠ some l → gate → s.seq.st ≠ .waitStart → s.seq.st ≠ .stepPause →
        exec (.seenLevelChange i ⟨l, c⟩) s = .next (pump u))
      ∧ (line.seen ≠ some l → gate → (s.seq.st = .waitStart ∨ s.seq.st = .stepPause) →
        exec (.seenLevelChange i ⟨l, c⟩) s =
          .next (pump (deliverStart (.trigger (lineSource i)) counted).2))

/-- A RELEASE takes the floor afresh; when the oldest frame is older than it, that frame leaves the store, its run of
words returns to the pool and every other place reads as before, it is counted, a HIGH fill state falls to NORMAL at
or below FILL_LOW, and a held frame meets an admission attempt; else nothing leaves (a run of releases is a run of
RELEASE commands, assumption log entry 18, DEDUCED). -/
def Obligations.ReleaseTakesTheOldestFrame : Prop :=
  ∀ s : State, s.held = none →
    let r := refloor s
    (∀ f rest, s.store.frames = f :: rest → older s.store.nextSeq f.seq r.ret.floor = true →
        let n := s.store.occupancy - frameLength f.frame
        let left : State := { r with
          store.frames := rest
          store.occupancy := n
          store.ctr.released := s.store.ctr.released + 1 }
        let filled : State :=
          if s.store.fill = .high ∧ n ≤ s.mgmt.items.fillLow then
            postNotice (.fill .normal n) { left with store.fill := .normal }
          else left
        exec .release s =
            .next (pump (if s.seq.st = .admitWait then settled (attemptAdmission false filled) else filled))
          ∧ (StoreLaw s → ∀ x : PoolPlace, poolWord left.store x =
            if (x - f.place).toNat < frameLength f.frame then none else poolWord s.store x))
      ∧ ((s.store.frames = [] ∨ ∃ f rest, s.store.frames = f :: rest
          ∧ older s.store.nextSeq f.seq r.ret.floor = false) →
        exec .release s = .next (pump r))

/-! ### Notices and packets -/

/-- A posting of a disabled kind is not made and is counted; a posting of a kind that waits updates
that notice in its place, with the new time; any other joins the back of the queue with the time of its posting. -/
def Obligations.NoticePosting : Prop :=
  ∀ (b : NoticeBody) (s : State),
    let enabled : Bool := s.mgmt.items.noticeEnable.getLsbD (noticeKind b)
    let waits : Prop := ∃ n ∈ s.mgmt.noticeQ, noticeKind n.body = noticeKind b
    (enabled = false → postNotice b s = { s with mgmt.ctr.suppressed := s.mgmt.ctr.suppressed + 1 })
      ∧ (enabled = true → ¬ waits → postNotice b s =
        { s with
          mgmt.noticeQ := s.mgmt.noticeQ ++ [{ postedAt := s.mgmt.timeBase, body := b }]
          mgmt.ctr.posted := s.mgmt.ctr.posted + 1 })
      ∧ (enabled = true → ∀ before old after, s.mgmt.noticeQ = before ++ old :: after →
        noticeKind old.body = noticeKind b → (∀ n ∈ before ++ after, noticeKind n.body ≠ noticeKind b) →
        ∃ merged, postNotice b s =
            { s with
              mgmt.noticeQ := before ++ { postedAt := s.mgmt.timeBase, body := merged } :: after
              mgmt.ctr.coalesced := s.mgmt.ctr.coalesced + 1 }
          ∧ (match old.body, b with
            | .sweepLost x, .sweepLost y => ∃ z, merged = .sweepLost z ∧ z.toNat = min (x.toNat + y.toNat) 65535
            | .startOverrun x _, .startOverrun y c =>
              ∃ z, merged = .startOverrun z c ∧ z.toNat = min (x.toNat + y.toNat) 65535
            | .fwdDrop h n, .fwdDrop h' n' =>
              ∃ z z', merged = .fwdDrop z z' ∧ z.toNat = min (h.toNat + h'.toNat) 65535
                ∧ z'.toNat = min (n.toNat + n'.toNat) 65535
            | _, _ => merged = b))

/-- A packet the part sends is undamaged when it arrives: its Length, its word count and its check word agree, and the
SREQ worked in Section 10 has the words given there. The payload of a frame's packet is as long as the frame and is
laid out as Tables 10-6 and 10-7 give: Seq, Sweep Number, Start Time, the Info word with the start cause, the source
number and the four flags in their bits, the Slot Count, the Gap Count when GAP is set, and each slot as its
descriptor word, with the entry index, the status and the sample count in their bits, and its samples. -/
def Obligations.PacketsSentAreUndamaged : Prop :=
  (∀ p : Packet, p.payload.length ≤ 1280 → runDamaged (packetWords p) = false)
    ∧ (∀ f : StoredFrame, (framePayload f).length = frameLength f.frame)
    ∧ (packetWords (built kindSREQ 3 65 [7, 2])).take 5 = [0x11F8#16, 0x4100#16, 0x0002#16, 0x0007#16, 0x0002#16]
    ∧ (∀ f : StoredFrame, ∃ info : Word,
        framePayload f =
          [f.seq.extractLsb' 16 16, f.seq.extractLsb' 0 16,
           f.frame.sweepNo.extractLsb' 16 16, f.frame.sweepNo.extractLsb' 0 16,
           f.frame.startTime.extractLsb' 16 16, f.frame.startTime.extractLsb' 0 16,
           info, BitVec.ofNat 16 f.frame.slots.length]
          ++ (match f.frame.gap with
            | some g => [g]
            | none => [])
          ++ f.frame.slots.flatMap slotWords
        ∧ info.extractLsb' 14 2 = (match f.frame.cause with
            | .period => 0
            | .command => 1
            | .trigger _ => 2)
        ∧ info.extractLsb' 11 3 = (match f.frame.cause with
            | .trigger n => BitVec.ofNat 3 n.val
            | _ => 0)
        ∧ info.extractLsb' 4 7 = 0
        ∧ info.getLsbD 3 = f.frame.gap.isSome ∧ info.getLsbD 2 = f.frame.isLinkDown
        ∧ info.getLsbD 1 = f.frame.isFinal ∧ info.getLsbD 0 = f.frame.isPartial)
    ∧ ∀ x : FrameSlot,
        let coded : Nat × List Word := match x.result with
          | .ok samples => (0, samples)
          | .timeout => (1, [])
          | .busy => (2, [])
          | .nochan => (3, [])
          | .malformed => (4, [])
          | .linkdown => (5, [])
        coded.2.length ≤ 16 →
        ∃ w : Word, slotWords x = w :: coded.2
          ∧ w.toNat = 1024 * x.entry.val + 128 * coded.1 + coded.2.length
end

