-- ==== Sys2Proof/Laws/State.lean ====
section
/-! SUPPORT. The fields of the state's small updates, one lemma for each field and update, so that no later proof
unfolds a record update. What an update leaves alone stands in Laws/Frames.lean. -/

namespace Sys2Proof.Machine

/-! ### Tables -/

theorem setAt_get {α : Type} {n : Nat} (v : Vector α n) (i : Fin n) (x : α) (j : Nat) (h : j < n) :
    (setAt v i x)[j] = if i.val = j then x else v[j] := by
  simp [setAt, Vector.getElem_set]

@[simp] theorem setAt_same {α : Type} {n : Nat} (v : Vector α n) (i : Fin n) (x : α) : (setAt v i x)[i.val] = x := by
  simp [setAt_get]

theorem setAt_other {α : Type} {n : Nat} (v : Vector α n) {i j : Fin n} (x : α) (h : i ≠ j) :
    (setAt v i x)[j] = v[j] := by
  have : i.val ≠ j.val := fun e => h (Fin.ext e)
  simp [setAt_get, this]

/-! ### Ports -/

@[simp] theorem beginPacket_tx (p : Packet) (b : PortBlock) : (beginPacket p b).tx = some p := rfl
@[simp] theorem beginPacket_link (p : Packet) (b : PortBlock) : (beginPacket p b).link = b.link := rfl
@[simp] theorem beginPacket_silence (p : Packet) (b : PortBlock) : (beginPacket p b).silence = b.silence := rfl
@[simp] theorem beginPacket_keepalive (p : Packet) (b : PortBlock) : (beginPacket p b).keepalive = b.keepalive := rfl
@[simp] theorem beginPacket_rx (p : Packet) (b : PortBlock) : (beginPacket p b).rx = b.rx := rfl
@[simp] theorem endPacket_tx (b : PortBlock) : (endPacket b).tx = none := rfl
@[simp] theorem endPacket_link (b : PortBlock) : (endPacket b).link = b.link := rfl
@[simp] theorem endPacket_silence (b : PortBlock) : (endPacket b).silence = b.silence := rfl
@[simp] theorem endPacket_keepalive (b : PortBlock) : (endPacket b).keepalive = Config.keepaliveTicks := rfl
@[simp] theorem endPacket_rx (b : PortBlock) : (endPacket b).rx = b.rx := rfl
@[simp] theorem countReceived_link (b : PortBlock) : (countReceived b).link = b.link := rfl
@[simp] theorem countReceived_tx (b : PortBlock) : (countReceived b).tx = b.tx := rfl
@[simp] theorem raiseLink_link (n : Nat) (b : PortBlock) : (raiseLink n b).link = .up := rfl
@[simp] theorem raiseLink_silence (n : Nat) (b : PortBlock) : (raiseLink n b).silence = n := rfl
@[simp] theorem raiseLink_tx (n : Nat) (b : PortBlock) : (raiseLink n b).tx = b.tx := rfl
@[simp] theorem dropLink_link (b : PortBlock) : (dropLink b).link = .down := rfl
@[simp] theorem dropLink_silence (b : PortBlock) : (dropLink b).silence = 0 := rfl
@[simp] theorem dropLink_tx (b : PortBlock) : (dropLink b).tx = b.tx := rfl
@[simp] theorem cutTransmission_tx (b : PortBlock) : (cutTransmission b).tx = none := by
  unfold cutTransmission; split <;> simp [*]
@[simp] theorem cutTransmission_link (b : PortBlock) : (cutTransmission b).link = b.link := by
  unfold cutTransmission; split <;> rfl
@[simp] theorem cutTransmission_silence (b : PortBlock) : (cutTransmission b).silence = b.silence := by
  unfold cutTransmission; split <;> rfl
@[simp] theorem withPort_h_portH (f : PortBlock → PortBlock) (s : State) : (withPort .h f s).portH = f s.portH := rfl
@[simp] theorem withPort_h_portN (f : PortBlock → PortBlock) (s : State) : (withPort .h f s).portN = s.portN := rfl
@[simp] theorem withPort_n_portH (f : PortBlock → PortBlock) (s : State) : (withPort .n f s).portH = s.portH := rfl
@[simp] theorem withPort_n_portN (f : PortBlock → PortBlock) (s : State) : (withPort .n f s).portN = f s.portN := rfl
@[simp] theorem portOf_h (s : State) : portOf .h s = s.portH := rfl
@[simp] theorem portOf_n (s : State) : portOf .n s = s.portN := rfl
@[simp] theorem beginH_portH (p : Packet) (s : State) : (beginH p s).portH = beginPacket p s.portH := rfl
@[simp] theorem beginN_portN (p : Packet) (x : LinkSource) (s : State) :
    (beginN p x s).portN = beginPacket p s.portN := rfl
@[simp] theorem beginN_sourceTurn (p : Packet) (x : LinkSource) (s : State) : (beginN p x s).sourceTurn = x := rfl

/-! ### Retention and delivery -/

@[simp] theorem refloor_floor (s : State) : (refloor s).ret.floor = floorOf s := rfl
@[simp] theorem putBookmark_bookmarks (b : Fin 8) (x : Bookmark) (s : State) :
    (putBookmark b x s).ret.bookmarks = setAt s.ret.bookmarks b x := rfl
@[simp] theorem openSession_session (x : Session) (s : State) : (openSession x s).del.session = some x := rfl
@[simp] theorem openSession_framesSent (x : Session) (s : State) : (openSession x s).del.framesSent = 0 := rfl
@[simp] theorem flushPositions_bookmarks (s : State) :
    (flushPositions s).ret.bookmarks = Vector.replicate 8 .free := rfl
@[simp] theorem flushPositions_ackedThrough (s : State) :
    (flushPositions s).ret.ackedThrough = s.store.nextSeq - 1 := rfl
@[simp] theorem flushPositions_liveCursor (s : State) : (flushPositions s).del.liveCursor = s.store.nextSeq := rfl

/-! ### The store -/

@[simp] theorem storeAdmit_frames (f : Frame) (st : FrameStore) :
    (storeAdmit f st).frames = st.frames ++ [{ seq := st.nextSeq, frame := f, place := st.poolNext }] := rfl
@[simp] theorem storeAdmit_poolNext (f : Frame) (st : FrameStore) :
    (storeAdmit f st).poolNext = st.poolNext + BitVec.ofNat 16 (frameLength f) := rfl
@[simp] theorem storeAdmit_occupancy (f : Frame) (st : FrameStore) :
    (storeAdmit f st).occupancy = st.occupancy + frameLength f := rfl
@[simp] theorem storeAdmit_nextSeq (f : Frame) (st : FrameStore) : (storeAdmit f st).nextSeq = st.nextSeq + 1 := rfl
@[simp] theorem storeAdmit_fill (f : Frame) (st : FrameStore) : (storeAdmit f st).fill = st.fill := rfl

/-! ### The sequencer -/

@[simp] theorem openSweep_st (c : StartCause) (s : State) : (openSweep c s).seq.st = .sweep := rfl
@[simp] theorem openSweep_sweepNo (c : StartCause) (s : State) : (openSweep c s).seq.sweepNo = s.seq.sweepNo + 1 := rfl
@[simp] theorem openSweep_current (c : StartCause) (s : State) :
    (openSweep c s).asm.current =
      some (newAssembly c (s.seq.sweepNo + 1) s.mgmt.timeBase (includedEntries s (s.seq.sweepNo + 1))) := rfl
@[simp] theorem armSequencer_mode (s : State) : (armSequencer s).seq.mode = s.mgmt.items.sweepMode := rfl
@[simp] theorem armSequencer_period (s : State) : (armSequencer s).seq.period = s.mgmt.items.sweepPeriod := rfl
@[simp] theorem armSequencer_maxOut (s : State) : (armSequencer s).seq.maxOut = s.mgmt.items.maxOutstanding := rfl
@[simp] theorem armSequencer_sweepNo (s : State) : (armSequencer s).seq.sweepNo = 0 := rfl
@[simp] theorem armSequencer_latch (s : State) : (armSequencer s).seq.latch = none := rfl
@[simp] theorem armSequencer_stopPending (s : State) : (armSequencer s).seq.stopPending = false := rfl
@[simp] theorem armSequencer_periodTimer (s : State) : (armSequencer s).seq.periodTimer = none := rfl

/-! ### Trigger lines and the Trigger Map -/

@[simp] theorem setLevel_lines (i : Fin 4) (l : Level) (s : State) :
    (setLevel i l s).trig.lines = setAt s.trig.lines i { seen := some l, ref := some l } := rfl
@[simp] theorem writeTrigEntry_map (i : Fin 8) (e : TrigEntry) (s : State) :
    (writeTrigEntry i e s).trig.map = setAt s.trig.map i e := rfl
@[simp] theorem resetReference_lines (i : Fin 4) (s : State) :
    (resetReference i s).trig.lines =
      setAt s.trig.lines i { seen := s.trig.lines[i].seen, ref := s.trig.lines[i].seen } := rfl

end Sys2Proof.Machine
end

