-- ==== Sys2Proof/Laws/Frames.lean ====
section
/-! SUPPORT. The frame of each operation: every piece of state it leaves alone. Each lemma is one conjunction of
equations, which simp uses one by one. -/

namespace Sys2Proof.Machine

@[simp] theorem refloor_frame (s : State) :
    (refloor s).held = s.held ∧ (refloor s).seq = s.seq ∧ (refloor s).req = s.req ∧ (refloor s).asm = s.asm
      ∧ (refloor s).store = s.store ∧ (refloor s).ret.ackedThrough = s.ret.ackedThrough
      ∧ (refloor s).ret.bookmarks = s.ret.bookmarks ∧ (refloor s).del = s.del ∧ (refloor s).portH = s.portH
      ∧ (refloor s).portN = s.portN ∧ (refloor s).frameTurn = s.frameTurn
      ∧ (refloor s).sourceTurn = s.sourceTurn ∧ (refloor s).trig = s.trig ∧ (refloor s).fwd = s.fwd
      ∧ (refloor s).mgmt = s.mgmt ∧ (refloor s).choices = s.choices ∧ (refloor s).pending = s.pending := by
  simp [refloor]

@[simp] theorem postNotice_frame (b : NoticeBody) (s : State) :
    (postNotice b s).held = s.held ∧ (postNotice b s).seq = s.seq ∧ (postNotice b s).req = s.req
      ∧ (postNotice b s).asm = s.asm ∧ (postNotice b s).store = s.store ∧ (postNotice b s).ret = s.ret
      ∧ (postNotice b s).del = s.del ∧ (postNotice b s).portH = s.portH ∧ (postNotice b s).portN = s.portN
      ∧ (postNotice b s).frameTurn = s.frameTurn ∧ (postNotice b s).sourceTurn = s.sourceTurn
      ∧ (postNotice b s).trig = s.trig ∧ (postNotice b s).fwd = s.fwd
      ∧ (postNotice b s).mgmt.items = s.mgmt.items ∧ (postNotice b s).mgmt.timeBase = s.mgmt.timeBase
      ∧ (postNotice b s).mgmt.respQ = s.mgmt.respQ ∧ (postNotice b s).choices = s.choices
      ∧ (postNotice b s).pending = s.pending := by
  unfold postNotice; (repeat' split) <;> simp

@[simp] theorem countTaken_frame (s : State) :
    (countTaken s).held = s.held ∧ (countTaken s).seq.scanList = s.seq.scanList
      ∧ (countTaken s).seq.st = s.seq.st ∧ (countTaken s).seq.mode = s.seq.mode
      ∧ (countTaken s).seq.period = s.seq.period ∧ (countTaken s).seq.maxOut = s.seq.maxOut
      ∧ (countTaken s).seq.sweepNo = s.seq.sweepNo ∧ (countTaken s).seq.periodTimer = s.seq.periodTimer
      ∧ (countTaken s).seq.latch = s.seq.latch ∧ (countTaken s).seq.stopPending = s.seq.stopPending
      ∧ (countTaken s).seq.available = s.seq.available ∧ (countTaken s).seq.remaining = s.seq.remaining
      ∧ (countTaken s).req = s.req ∧ (countTaken s).asm = s.asm ∧ (countTaken s).store = s.store
      ∧ (countTaken s).ret = s.ret ∧ (countTaken s).del = s.del ∧ (countTaken s).portH = s.portH
      ∧ (countTaken s).portN = s.portN ∧ (countTaken s).frameTurn = s.frameTurn
      ∧ (countTaken s).sourceTurn = s.sourceTurn ∧ (countTaken s).trig = s.trig ∧ (countTaken s).fwd = s.fwd
      ∧ (countTaken s).mgmt = s.mgmt ∧ (countTaken s).choices = s.choices ∧ (countTaken s).pending = s.pending := by
  simp [countTaken]

@[simp] theorem countIgnored_frame (s : State) :
    (countIgnored s).held = s.held ∧ (countIgnored s).seq.scanList = s.seq.scanList
      ∧ (countIgnored s).seq.st = s.seq.st ∧ (countIgnored s).seq.mode = s.seq.mode
      ∧ (countIgnored s).seq.period = s.seq.period ∧ (countIgnored s).seq.maxOut = s.seq.maxOut
      ∧ (countIgnored s).seq.sweepNo = s.seq.sweepNo ∧ (countIgnored s).seq.periodTimer = s.seq.periodTimer
      ∧ (countIgnored s).seq.latch = s.seq.latch ∧ (countIgnored s).seq.stopPending = s.seq.stopPending
      ∧ (countIgnored s).seq.available = s.seq.available ∧ (countIgnored s).seq.remaining = s.seq.remaining
      ∧ (countIgnored s).req = s.req ∧ (countIgnored s).asm = s.asm ∧ (countIgnored s).store = s.store
      ∧ (countIgnored s).ret = s.ret ∧ (countIgnored s).del = s.del ∧ (countIgnored s).portH = s.portH
      ∧ (countIgnored s).portN = s.portN ∧ (countIgnored s).frameTurn = s.frameTurn
      ∧ (countIgnored s).sourceTurn = s.sourceTurn ∧ (countIgnored s).trig = s.trig
      ∧ (countIgnored s).fwd = s.fwd ∧ (countIgnored s).mgmt = s.mgmt ∧ (countIgnored s).choices = s.choices
      ∧ (countIgnored s).pending = s.pending := by
  simp [countIgnored]

@[simp] theorem countSource_frame (i : Fin 8) (s : State) :
    (countSource i s).held = s.held ∧ (countSource i s).seq = s.seq ∧ (countSource i s).req = s.req
      ∧ (countSource i s).asm = s.asm ∧ (countSource i s).store = s.store ∧ (countSource i s).ret = s.ret
      ∧ (countSource i s).del = s.del ∧ (countSource i s).portH = s.portH ∧ (countSource i s).portN = s.portN
      ∧ (countSource i s).frameTurn = s.frameTurn ∧ (countSource i s).sourceTurn = s.sourceTurn
      ∧ (countSource i s).trig.map = s.trig.map ∧ (countSource i s).trig.lines = s.trig.lines
      ∧ (countSource i s).fwd = s.fwd ∧ (countSource i s).mgmt = s.mgmt ∧ (countSource i s).choices = s.choices
      ∧ (countSource i s).pending = s.pending := by
  simp [countSource]

@[simp] theorem putBookmark_frame (b : Fin 8) (x : Bookmark) (s : State) :
    (putBookmark b x s).held = s.held ∧ (putBookmark b x s).seq = s.seq ∧ (putBookmark b x s).req = s.req
      ∧ (putBookmark b x s).asm = s.asm ∧ (putBookmark b x s).store = s.store
      ∧ (putBookmark b x s).ret.ackedThrough = s.ret.ackedThrough ∧ (putBookmark b x s).del = s.del
      ∧ (putBookmark b x s).portH = s.portH ∧ (putBookmark b x s).portN = s.portN
      ∧ (putBookmark b x s).frameTurn = s.frameTurn ∧ (putBookmark b x s).sourceTurn = s.sourceTurn
      ∧ (putBookmark b x s).trig = s.trig ∧ (putBookmark b x s).fwd = s.fwd ∧ (putBookmark b x s).mgmt = s.mgmt
      ∧ (putBookmark b x s).choices = s.choices ∧ (putBookmark b x s).pending = s.pending := by
  simp [putBookmark]

@[simp] theorem markAction_frame (b : Fin 8) (s : State) :
    (markAction b s).held = s.held ∧ (markAction b s).seq = s.seq ∧ (markAction b s).req = s.req
      ∧ (markAction b s).asm = s.asm ∧ (markAction b s).store = s.store
      ∧ (markAction b s).ret.ackedThrough = s.ret.ackedThrough ∧ (markAction b s).del = s.del
      ∧ (markAction b s).portH = s.portH ∧ (markAction b s).portN = s.portN
      ∧ (markAction b s).frameTurn = s.frameTurn ∧ (markAction b s).sourceTurn = s.sourceTurn
      ∧ (markAction b s).trig.map = s.trig.map ∧ (markAction b s).trig.lines = s.trig.lines
      ∧ (markAction b s).fwd = s.fwd ∧ (markAction b s).mgmt = s.mgmt ∧ (markAction b s).choices = s.choices
      ∧ (markAction b s).pending = s.pending := by
  unfold markAction; split <;> simp

@[simp] theorem fillRises_frame (s : State) :
    (fillRises s).held = s.held ∧ (fillRises s).seq = s.seq ∧ (fillRises s).req = s.req
      ∧ (fillRises s).asm = s.asm ∧ (fillRises s).store.frames = s.store.frames
      ∧ (fillRises s).store.occupancy = s.store.occupancy ∧ (fillRises s).store.nextSeq = s.store.nextSeq
      ∧ (fillRises s).store.poolNext = s.store.poolNext
      ∧ (fillRises s).ret = s.ret ∧ (fillRises s).del = s.del ∧ (fillRises s).portH = s.portH
      ∧ (fillRises s).portN = s.portN ∧ (fillRises s).frameTurn = s.frameTurn
      ∧ (fillRises s).sourceTurn = s.sourceTurn ∧ (fillRises s).trig = s.trig ∧ (fillRises s).fwd = s.fwd
      ∧ (fillRises s).mgmt.items = s.mgmt.items ∧ (fillRises s).mgmt.timeBase = s.mgmt.timeBase
      ∧ (fillRises s).mgmt.respQ = s.mgmt.respQ ∧ (fillRises s).choices = s.choices
      ∧ (fillRises s).pending = s.pending := by
  simp [fillRises]

@[simp] theorem fillOnAdmission_frame (s : State) :
    (fillOnAdmission s).held = s.held ∧ (fillOnAdmission s).seq = s.seq ∧ (fillOnAdmission s).req = s.req
      ∧ (fillOnAdmission s).asm = s.asm ∧ (fillOnAdmission s).store.frames = s.store.frames
      ∧ (fillOnAdmission s).store.occupancy = s.store.occupancy
      ∧ (fillOnAdmission s).store.nextSeq = s.store.nextSeq
      ∧ (fillOnAdmission s).store.poolNext = s.store.poolNext ∧ (fillOnAdmission s).ret = s.ret
      ∧ (fillOnAdmission s).del = s.del ∧ (fillOnAdmission s).portH = s.portH
      ∧ (fillOnAdmission s).portN = s.portN ∧ (fillOnAdmission s).frameTurn = s.frameTurn
      ∧ (fillOnAdmission s).sourceTurn = s.sourceTurn ∧ (fillOnAdmission s).trig = s.trig
      ∧ (fillOnAdmission s).fwd = s.fwd ∧ (fillOnAdmission s).mgmt.items = s.mgmt.items
      ∧ (fillOnAdmission s).mgmt.timeBase = s.mgmt.timeBase ∧ (fillOnAdmission s).mgmt.respQ = s.mgmt.respQ
      ∧ (fillOnAdmission s).choices = s.choices ∧ (fillOnAdmission s).pending = s.pending := by
  unfold fillOnAdmission; (repeat' split) <;> simp

@[simp] theorem fillFalls_frame (s : State) :
    (fillFalls s).held = s.held ∧ (fillFalls s).seq = s.seq ∧ (fillFalls s).req = s.req
      ∧ (fillFalls s).asm = s.asm ∧ (fillFalls s).store.frames = s.store.frames
      ∧ (fillFalls s).store.occupancy = s.store.occupancy ∧ (fillFalls s).store.nextSeq = s.store.nextSeq
      ∧ (fillFalls s).store.poolNext = s.store.poolNext
      ∧ (fillFalls s).store.ctr = s.store.ctr ∧ (fillFalls s).ret = s.ret ∧ (fillFalls s).del = s.del
      ∧ (fillFalls s).portH = s.portH ∧ (fillFalls s).portN = s.portN ∧ (fillFalls s).frameTurn = s.frameTurn
      ∧ (fillFalls s).sourceTurn = s.sourceTurn ∧ (fillFalls s).trig = s.trig ∧ (fillFalls s).fwd = s.fwd
      ∧ (fillFalls s).mgmt.items = s.mgmt.items ∧ (fillFalls s).mgmt.timeBase = s.mgmt.timeBase
      ∧ (fillFalls s).mgmt.respQ = s.mgmt.respQ ∧ (fillFalls s).choices = s.choices
      ∧ (fillFalls s).pending = s.pending := by
  simp [fillFalls]

@[simp] theorem fillOnRelease_frame (s : State) :
    (fillOnRelease s).held = s.held ∧ (fillOnRelease s).seq = s.seq ∧ (fillOnRelease s).req = s.req
      ∧ (fillOnRelease s).asm = s.asm ∧ (fillOnRelease s).store.frames = s.store.frames
      ∧ (fillOnRelease s).store.occupancy = s.store.occupancy
      ∧ (fillOnRelease s).store.nextSeq = s.store.nextSeq
      ∧ (fillOnRelease s).store.poolNext = s.store.poolNext ∧ (fillOnRelease s).store.ctr = s.store.ctr
      ∧ (fillOnRelease s).ret = s.ret ∧ (fillOnRelease s).del = s.del ∧ (fillOnRelease s).portH = s.portH
      ∧ (fillOnRelease s).portN = s.portN ∧ (fillOnRelease s).frameTurn = s.frameTurn
      ∧ (fillOnRelease s).sourceTurn = s.sourceTurn ∧ (fillOnRelease s).trig = s.trig
      ∧ (fillOnRelease s).fwd = s.fwd ∧ (fillOnRelease s).mgmt.items = s.mgmt.items
      ∧ (fillOnRelease s).mgmt.timeBase = s.mgmt.timeBase ∧ (fillOnRelease s).mgmt.respQ = s.mgmt.respQ
      ∧ (fillOnRelease s).choices = s.choices ∧ (fillOnRelease s).pending = s.pending := by
  unfold fillOnRelease; (repeat' split) <;> simp

@[simp] theorem fillReevaluate_frame (s : State) :
    (fillReevaluate s).held = s.held ∧ (fillReevaluate s).seq = s.seq ∧ (fillReevaluate s).req = s.req
      ∧ (fillReevaluate s).asm = s.asm ∧ (fillReevaluate s).store.frames = s.store.frames
      ∧ (fillReevaluate s).store.occupancy = s.store.occupancy
      ∧ (fillReevaluate s).store.nextSeq = s.store.nextSeq
      ∧ (fillReevaluate s).store.poolNext = s.store.poolNext ∧ (fillReevaluate s).ret = s.ret
      ∧ (fillReevaluate s).del = s.del ∧ (fillReevaluate s).portH = s.portH
      ∧ (fillReevaluate s).portN = s.portN ∧ (fillReevaluate s).frameTurn = s.frameTurn
      ∧ (fillReevaluate s).sourceTurn = s.sourceTurn ∧ (fillReevaluate s).trig = s.trig
      ∧ (fillReevaluate s).fwd = s.fwd ∧ (fillReevaluate s).mgmt.items = s.mgmt.items
      ∧ (fillReevaluate s).mgmt.timeBase = s.mgmt.timeBase ∧ (fillReevaluate s).mgmt.respQ = s.mgmt.respQ
      ∧ (fillReevaluate s).choices = s.choices ∧ (fillReevaluate s).pending = s.pending := by
  unfold fillReevaluate; split <;> simp

@[simp] theorem admitFrame_frame (f : Frame) (s : State) :
    (admitFrame f s).held = s.held ∧ (admitFrame f s).seq = s.seq ∧ (admitFrame f s).req = s.req
      ∧ (admitFrame f s).ret.ackedThrough = s.ret.ackedThrough ∧ (admitFrame f s).ret.floor = s.ret.floor
      ∧ (admitFrame f s).del = s.del ∧ (admitFrame f s).portH = s.portH ∧ (admitFrame f s).portN = s.portN
      ∧ (admitFrame f s).frameTurn = s.frameTurn ∧ (admitFrame f s).sourceTurn = s.sourceTurn
      ∧ (admitFrame f s).trig = s.trig ∧ (admitFrame f s).fwd = s.fwd
      ∧ (admitFrame f s).mgmt.items = s.mgmt.items ∧ (admitFrame f s).mgmt.timeBase = s.mgmt.timeBase
      ∧ (admitFrame f s).mgmt.respQ = s.mgmt.respQ ∧ (admitFrame f s).choices = s.choices
      ∧ (admitFrame f s).pending = s.pending := by
  simp [admitFrame]

@[simp] theorem discardFrame_frame (s : State) :
    (discardFrame s).held = s.held ∧ (discardFrame s).seq = s.seq ∧ (discardFrame s).req = s.req
      ∧ (discardFrame s).store.frames = s.store.frames ∧ (discardFrame s).store.occupancy = s.store.occupancy
      ∧ (discardFrame s).store.nextSeq = s.store.nextSeq
      ∧ (discardFrame s).store.poolNext = s.store.poolNext ∧ (discardFrame s).store.fill = s.store.fill
      ∧ (discardFrame s).ret = s.ret ∧ (discardFrame s).del = s.del ∧ (discardFrame s).portH = s.portH
      ∧ (discardFrame s).portN = s.portN ∧ (discardFrame s).frameTurn = s.frameTurn
      ∧ (discardFrame s).sourceTurn = s.sourceTurn ∧ (discardFrame s).trig = s.trig
      ∧ (discardFrame s).fwd = s.fwd ∧ (discardFrame s).mgmt.items = s.mgmt.items
      ∧ (discardFrame s).mgmt.timeBase = s.mgmt.timeBase ∧ (discardFrame s).mgmt.respQ = s.mgmt.respQ
      ∧ (discardFrame s).choices = s.choices ∧ (discardFrame s).pending = s.pending := by
  simp [discardFrame]

@[simp] theorem releaseOldest_frame (s : State) :
    (releaseOldest s).held = s.held ∧ (releaseOldest s).seq = s.seq ∧ (releaseOldest s).req = s.req
      ∧ (releaseOldest s).asm = s.asm ∧ (releaseOldest s).store.nextSeq = s.store.nextSeq
      ∧ (releaseOldest s).store.poolNext = s.store.poolNext
      ∧ (releaseOldest s).ret = s.ret ∧ (releaseOldest s).del = s.del ∧ (releaseOldest s).portH = s.portH
      ∧ (releaseOldest s).portN = s.portN ∧ (releaseOldest s).frameTurn = s.frameTurn
      ∧ (releaseOldest s).sourceTurn = s.sourceTurn ∧ (releaseOldest s).trig = s.trig
      ∧ (releaseOldest s).fwd = s.fwd ∧ (releaseOldest s).mgmt.items = s.mgmt.items
      ∧ (releaseOldest s).mgmt.timeBase = s.mgmt.timeBase ∧ (releaseOldest s).mgmt.respQ = s.mgmt.respQ
      ∧ (releaseOldest s).choices = s.choices ∧ (releaseOldest s).pending = s.pending := by
  unfold releaseOldest; split <;> simp

@[simp] theorem issueFrom_frame (es : List (Fin 64)) (s : State) :
    (issueFrom es s).held = s.held ∧ (issueFrom es s).seq.scanList = s.seq.scanList
      ∧ (issueFrom es s).seq.st = s.seq.st ∧ (issueFrom es s).seq.mode = s.seq.mode
      ∧ (issueFrom es s).seq.period = s.seq.period ∧ (issueFrom es s).seq.maxOut = s.seq.maxOut
      ∧ (issueFrom es s).seq.sweepNo = s.seq.sweepNo ∧ (issueFrom es s).seq.periodTimer = s.seq.periodTimer
      ∧ (issueFrom es s).seq.latch = s.seq.latch ∧ (issueFrom es s).seq.stopPending = s.seq.stopPending
      ∧ (issueFrom es s).seq.remaining = s.seq.remaining ∧ (issueFrom es s).seq.ctr = s.seq.ctr
      ∧ (issueFrom es s).req.retryQ = s.req.retryQ ∧ (issueFrom es s).asm = s.asm
      ∧ (issueFrom es s).store = s.store ∧ (issueFrom es s).ret = s.ret ∧ (issueFrom es s).del = s.del
      ∧ (issueFrom es s).portH = s.portH ∧ (issueFrom es s).portN = s.portN
      ∧ (issueFrom es s).frameTurn = s.frameTurn ∧ (issueFrom es s).sourceTurn = s.sourceTurn
      ∧ (issueFrom es s).trig = s.trig ∧ (issueFrom es s).fwd = s.fwd ∧ (issueFrom es s).mgmt = s.mgmt
      ∧ (issueFrom es s).choices = s.choices ∧ (issueFrom es s).pending = s.pending := by
  induction es generalizing s with
  | nil => simp [issueFrom]
  | cons e es ih =>
    unfold issueFrom; (repeat' split) <;> simp [ih, issueInto]

@[simp] theorem issueAvailable_frame (s : State) :
    (issueAvailable s).held = s.held ∧ (issueAvailable s).seq.scanList = s.seq.scanList
      ∧ (issueAvailable s).seq.st = s.seq.st ∧ (issueAvailable s).seq.mode = s.seq.mode
      ∧ (issueAvailable s).seq.period = s.seq.period ∧ (issueAvailable s).seq.maxOut = s.seq.maxOut
      ∧ (issueAvailable s).seq.sweepNo = s.seq.sweepNo ∧ (issueAvailable s).seq.periodTimer = s.seq.periodTimer
      ∧ (issueAvailable s).seq.latch = s.seq.latch ∧ (issueAvailable s).seq.stopPending = s.seq.stopPending
      ∧ (issueAvailable s).seq.remaining = s.seq.remaining ∧ (issueAvailable s).seq.ctr = s.seq.ctr
      ∧ (issueAvailable s).req.retryQ = s.req.retryQ ∧ (issueAvailable s).asm = s.asm
      ∧ (issueAvailable s).store = s.store ∧ (issueAvailable s).ret = s.ret ∧ (issueAvailable s).del = s.del
      ∧ (issueAvailable s).portH = s.portH ∧ (issueAvailable s).portN = s.portN
      ∧ (issueAvailable s).frameTurn = s.frameTurn ∧ (issueAvailable s).sourceTurn = s.sourceTurn
      ∧ (issueAvailable s).trig = s.trig ∧ (issueAvailable s).fwd = s.fwd ∧ (issueAvailable s).mgmt = s.mgmt
      ∧ (issueAvailable s).choices = s.choices ∧ (issueAvailable s).pending = s.pending := by
  simp [issueAvailable]

@[simp] theorem giveResult_frame (x : FrameSlot) (s : State) :
    (giveResult x s).held = s.held ∧ (giveResult x s).seq = s.seq ∧ (giveResult x s).req = s.req
      ∧ (giveResult x s).asm.pendingGap = s.asm.pendingGap ∧ (giveResult x s).store = s.store
      ∧ (giveResult x s).ret = s.ret ∧ (giveResult x s).del = s.del ∧ (giveResult x s).portH = s.portH
      ∧ (giveResult x s).portN = s.portN ∧ (giveResult x s).frameTurn = s.frameTurn
      ∧ (giveResult x s).sourceTurn = s.sourceTurn ∧ (giveResult x s).trig = s.trig
      ∧ (giveResult x s).fwd = s.fwd ∧ (giveResult x s).mgmt = s.mgmt ∧ (giveResult x s).choices = s.choices
      ∧ (giveResult x s).pending = s.pending := by
  unfold giveResult; split <;> simp

@[simp] theorem resolveSlot_frame (i : Fin 4) (e : Fin 64) (res : SlotResult) (s : State) :
    (resolveSlot i e res s).held = s.held ∧ (resolveSlot i e res s).seq = s.seq
      ∧ (resolveSlot i e res s).req.retryQ = s.req.retryQ ∧ (resolveSlot i e res s).req.firstQ = s.req.firstQ
      ∧ (resolveSlot i e res s).asm.pendingGap = s.asm.pendingGap ∧ (resolveSlot i e res s).store = s.store
      ∧ (resolveSlot i e res s).ret = s.ret ∧ (resolveSlot i e res s).del = s.del
      ∧ (resolveSlot i e res s).portH = s.portH ∧ (resolveSlot i e res s).portN = s.portN
      ∧ (resolveSlot i e res s).frameTurn = s.frameTurn ∧ (resolveSlot i e res s).sourceTurn = s.sourceTurn
      ∧ (resolveSlot i e res s).trig = s.trig ∧ (resolveSlot i e res s).fwd = s.fwd
      ∧ (resolveSlot i e res s).mgmt = s.mgmt ∧ (resolveSlot i e res s).choices = s.choices
      ∧ (resolveSlot i e res s).pending = s.pending := by unfold resolveSlot setUse; simp

@[simp] theorem giveLinkDowns_frame (es : List (Fin 64)) (s : State) :
    (giveLinkDowns es s).held = s.held ∧ (giveLinkDowns es s).seq = s.seq ∧ (giveLinkDowns es s).req = s.req
      ∧ (giveLinkDowns es s).asm.pendingGap = s.asm.pendingGap ∧ (giveLinkDowns es s).store = s.store
      ∧ (giveLinkDowns es s).ret = s.ret ∧ (giveLinkDowns es s).del = s.del
      ∧ (giveLinkDowns es s).portH = s.portH ∧ (giveLinkDowns es s).portN = s.portN
      ∧ (giveLinkDowns es s).frameTurn = s.frameTurn ∧ (giveLinkDowns es s).sourceTurn = s.sourceTurn
      ∧ (giveLinkDowns es s).trig = s.trig ∧ (giveLinkDowns es s).fwd = s.fwd
      ∧ (giveLinkDowns es s).mgmt = s.mgmt ∧ (giveLinkDowns es s).choices = s.choices
      ∧ (giveLinkDowns es s).pending = s.pending := by
  unfold giveLinkDowns
  induction es generalizing s with
  | nil => simp
  | cons e es ih => simp [ih]

@[simp] theorem loseSlots_frame (s : State) :
    (loseSlots s).held = s.held ∧ (loseSlots s).seq = s.seq ∧ (loseSlots s).asm.pendingGap = s.asm.pendingGap
      ∧ (loseSlots s).store = s.store ∧ (loseSlots s).ret = s.ret ∧ (loseSlots s).del = s.del
      ∧ (loseSlots s).portH = s.portH ∧ (loseSlots s).portN = s.portN ∧ (loseSlots s).frameTurn = s.frameTurn
      ∧ (loseSlots s).sourceTurn = s.sourceTurn ∧ (loseSlots s).trig = s.trig ∧ (loseSlots s).fwd = s.fwd
      ∧ (loseSlots s).mgmt = s.mgmt ∧ (loseSlots s).choices = s.choices ∧ (loseSlots s).pending = s.pending := by unfold loseSlots freeAll; simp

@[simp] theorem latchStart_frame (c : StartCause) (s : State) :
    ((latchStart c s).2).held = s.held ∧ ((latchStart c s).2).seq.scanList = s.seq.scanList
      ∧ ((latchStart c s).2).seq.st = s.seq.st ∧ ((latchStart c s).2).seq.mode = s.seq.mode
      ∧ ((latchStart c s).2).seq.period = s.seq.period ∧ ((latchStart c s).2).seq.maxOut = s.seq.maxOut
      ∧ ((latchStart c s).2).seq.sweepNo = s.seq.sweepNo
      ∧ ((latchStart c s).2).seq.periodTimer = s.seq.periodTimer
      ∧ ((latchStart c s).2).seq.stopPending = s.seq.stopPending
      ∧ ((latchStart c s).2).seq.available = s.seq.available
      ∧ ((latchStart c s).2).seq.remaining = s.seq.remaining ∧ ((latchStart c s).2).req = s.req
      ∧ ((latchStart c s).2).asm = s.asm ∧ ((latchStart c s).2).store = s.store
      ∧ ((latchStart c s).2).ret = s.ret ∧ ((latchStart c s).2).del = s.del
      ∧ ((latchStart c s).2).portH = s.portH ∧ ((latchStart c s).2).portN = s.portN
      ∧ ((latchStart c s).2).frameTurn = s.frameTurn ∧ ((latchStart c s).2).sourceTurn = s.sourceTurn
      ∧ ((latchStart c s).2).trig = s.trig ∧ ((latchStart c s).2).fwd = s.fwd
      ∧ ((latchStart c s).2).mgmt.items = s.mgmt.items ∧ ((latchStart c s).2).mgmt.timeBase = s.mgmt.timeBase
      ∧ ((latchStart c s).2).mgmt.respQ = s.mgmt.respQ ∧ ((latchStart c s).2).choices = s.choices
      ∧ ((latchStart c s).2).pending = s.pending := by
  unfold latchStart; split <;> simp

@[simp] theorem clearLatch_frame (s : State) :
    (clearLatch s).held = s.held ∧ (clearLatch s).seq.scanList = s.seq.scanList
      ∧ (clearLatch s).seq.st = s.seq.st ∧ (clearLatch s).seq.mode = s.seq.mode
      ∧ (clearLatch s).seq.period = s.seq.period ∧ (clearLatch s).seq.maxOut = s.seq.maxOut
      ∧ (clearLatch s).seq.sweepNo = s.seq.sweepNo ∧ (clearLatch s).seq.periodTimer = s.seq.periodTimer
      ∧ (clearLatch s).seq.stopPending = s.seq.stopPending ∧ (clearLatch s).seq.available = s.seq.available
      ∧ (clearLatch s).seq.remaining = s.seq.remaining ∧ (clearLatch s).req = s.req
      ∧ (clearLatch s).asm = s.asm ∧ (clearLatch s).store = s.store ∧ (clearLatch s).ret = s.ret
      ∧ (clearLatch s).del = s.del ∧ (clearLatch s).portH = s.portH ∧ (clearLatch s).portN = s.portN
      ∧ (clearLatch s).frameTurn = s.frameTurn ∧ (clearLatch s).sourceTurn = s.sourceTurn
      ∧ (clearLatch s).trig = s.trig ∧ (clearLatch s).fwd = s.fwd ∧ (clearLatch s).mgmt = s.mgmt
      ∧ (clearLatch s).choices = s.choices ∧ (clearLatch s).pending = s.pending := by
  unfold clearLatch; split <;> simp

@[simp] theorem enterIdle_frame (cause : IdleCause) (s : State) :
    (enterIdle cause s).held = s.held ∧ (enterIdle cause s).seq.scanList = s.seq.scanList
      ∧ (enterIdle cause s).seq.mode = s.seq.mode ∧ (enterIdle cause s).seq.period = s.seq.period
      ∧ (enterIdle cause s).seq.maxOut = s.seq.maxOut ∧ (enterIdle cause s).seq.sweepNo = s.seq.sweepNo
      ∧ (enterIdle cause s).req = s.req ∧ (enterIdle cause s).asm = s.asm ∧ (enterIdle cause s).store = s.store
      ∧ (enterIdle cause s).ret = s.ret ∧ (enterIdle cause s).del = s.del ∧ (enterIdle cause s).portH = s.portH
      ∧ (enterIdle cause s).portN = s.portN ∧ (enterIdle cause s).frameTurn = s.frameTurn
      ∧ (enterIdle cause s).sourceTurn = s.sourceTurn ∧ (enterIdle cause s).trig = s.trig
      ∧ (enterIdle cause s).fwd = s.fwd ∧ (enterIdle cause s).mgmt.items = s.mgmt.items
      ∧ (enterIdle cause s).mgmt.timeBase = s.mgmt.timeBase ∧ (enterIdle cause s).mgmt.respQ = s.mgmt.respQ
      ∧ (enterIdle cause s).choices = s.choices ∧ (enterIdle cause s).pending = s.pending := by
  simp [enterIdle]

@[simp] theorem afterOutcome_frame (s : State) :
    (afterOutcome s).held = s.held ∧ (afterOutcome s).seq.scanList = s.seq.scanList
      ∧ (afterOutcome s).seq.mode = s.seq.mode ∧ (afterOutcome s).seq.period = s.seq.period
      ∧ (afterOutcome s).seq.maxOut = s.seq.maxOut ∧ (afterOutcome s).seq.sweepNo = s.seq.sweepNo
      ∧ (afterOutcome s).req = s.req ∧ (afterOutcome s).asm = s.asm ∧ (afterOutcome s).store = s.store
      ∧ (afterOutcome s).ret = s.ret ∧ (afterOutcome s).del = s.del ∧ (afterOutcome s).portH = s.portH
      ∧ (afterOutcome s).portN = s.portN ∧ (afterOutcome s).frameTurn = s.frameTurn
      ∧ (afterOutcome s).sourceTurn = s.sourceTurn ∧ (afterOutcome s).trig = s.trig
      ∧ (afterOutcome s).fwd = s.fwd ∧ (afterOutcome s).mgmt.items = s.mgmt.items
      ∧ (afterOutcome s).mgmt.timeBase = s.mgmt.timeBase ∧ (afterOutcome s).mgmt.respQ = s.mgmt.respQ
      ∧ (afterOutcome s).choices = s.choices ∧ (afterOutcome s).pending = s.pending := by
  unfold afterOutcome; (repeat' split) <;> simp

@[simp] theorem attemptAdmission_frame (first : Bool) (s : State) :
    (attemptAdmission first s).held = s.held ∧ (attemptAdmission first s).seq.scanList = s.seq.scanList
      ∧ (attemptAdmission first s).seq.mode = s.seq.mode ∧ (attemptAdmission first s).seq.period = s.seq.period
      ∧ (attemptAdmission first s).seq.maxOut = s.seq.maxOut
      ∧ (attemptAdmission first s).seq.sweepNo = s.seq.sweepNo ∧ (attemptAdmission first s).req = s.req
      ∧ (attemptAdmission first s).ret.ackedThrough = s.ret.ackedThrough
      ∧ (attemptAdmission first s).ret.floor = s.ret.floor ∧ (attemptAdmission first s).del = s.del
      ∧ (attemptAdmission first s).portH = s.portH ∧ (attemptAdmission first s).portN = s.portN
      ∧ (attemptAdmission first s).frameTurn = s.frameTurn
      ∧ (attemptAdmission first s).sourceTurn = s.sourceTurn ∧ (attemptAdmission first s).trig = s.trig
      ∧ (attemptAdmission first s).fwd = s.fwd ∧ (attemptAdmission first s).mgmt.items = s.mgmt.items
      ∧ (attemptAdmission first s).mgmt.timeBase = s.mgmt.timeBase
      ∧ (attemptAdmission first s).mgmt.respQ = s.mgmt.respQ ∧ (attemptAdmission first s).choices = s.choices
      ∧ (attemptAdmission first s).pending = s.pending := by
  unfold attemptAdmission; (repeat' split) <;> simp

@[simp] theorem completeFrame_frame (ld : Bool) (pt : Bool) (s : State) :
    (completeFrame ld pt s).held = s.held ∧ (completeFrame ld pt s).seq.scanList = s.seq.scanList
      ∧ (completeFrame ld pt s).seq.mode = s.seq.mode ∧ (completeFrame ld pt s).seq.period = s.seq.period
      ∧ (completeFrame ld pt s).seq.maxOut = s.seq.maxOut ∧ (completeFrame ld pt s).seq.sweepNo = s.seq.sweepNo
      ∧ (completeFrame ld pt s).req = s.req ∧ (completeFrame ld pt s).ret.ackedThrough = s.ret.ackedThrough
      ∧ (completeFrame ld pt s).ret.floor = s.ret.floor ∧ (completeFrame ld pt s).del = s.del
      ∧ (completeFrame ld pt s).portH = s.portH ∧ (completeFrame ld pt s).portN = s.portN
      ∧ (completeFrame ld pt s).frameTurn = s.frameTurn ∧ (completeFrame ld pt s).sourceTurn = s.sourceTurn
      ∧ (completeFrame ld pt s).trig = s.trig ∧ (completeFrame ld pt s).fwd = s.fwd
      ∧ (completeFrame ld pt s).mgmt.items = s.mgmt.items
      ∧ (completeFrame ld pt s).mgmt.timeBase = s.mgmt.timeBase
      ∧ (completeFrame ld pt s).mgmt.respQ = s.mgmt.respQ ∧ (completeFrame ld pt s).choices = s.choices
      ∧ (completeFrame ld pt s).pending = s.pending := by
  unfold completeFrame; split <;> simp

@[simp] theorem openSweep_frame (c : StartCause) (s : State) :
    (openSweep c s).held = s.held ∧ (openSweep c s).seq.scanList = s.seq.scanList
      ∧ (openSweep c s).seq.mode = s.seq.mode ∧ (openSweep c s).seq.period = s.seq.period
      ∧ (openSweep c s).seq.maxOut = s.seq.maxOut ∧ (openSweep c s).seq.latch = s.seq.latch
      ∧ (openSweep c s).seq.stopPending = s.seq.stopPending ∧ (openSweep c s).req = s.req
      ∧ (openSweep c s).asm.pendingGap = s.asm.pendingGap ∧ (openSweep c s).store = s.store
      ∧ (openSweep c s).ret = s.ret ∧ (openSweep c s).del = s.del ∧ (openSweep c s).portH = s.portH
      ∧ (openSweep c s).portN = s.portN ∧ (openSweep c s).frameTurn = s.frameTurn
      ∧ (openSweep c s).sourceTurn = s.sourceTurn ∧ (openSweep c s).trig = s.trig ∧ (openSweep c s).fwd = s.fwd
      ∧ (openSweep c s).mgmt = s.mgmt ∧ (openSweep c s).choices = s.choices
      ∧ (openSweep c s).pending = s.pending := by
  simp [openSweep]

@[simp] theorem beginSweep_frame (c : StartCause) (s : State) :
    (beginSweep c s).held = s.held ∧ (beginSweep c s).seq.scanList = s.seq.scanList
      ∧ (beginSweep c s).seq.mode = s.seq.mode ∧ (beginSweep c s).seq.period = s.seq.period
      ∧ (beginSweep c s).seq.maxOut = s.seq.maxOut ∧ (beginSweep c s).req.retryQ = s.req.retryQ
      ∧ (beginSweep c s).ret.ackedThrough = s.ret.ackedThrough ∧ (beginSweep c s).ret.floor = s.ret.floor
      ∧ (beginSweep c s).del = s.del ∧ (beginSweep c s).portH = s.portH ∧ (beginSweep c s).portN = s.portN
      ∧ (beginSweep c s).frameTurn = s.frameTurn ∧ (beginSweep c s).sourceTurn = s.sourceTurn
      ∧ (beginSweep c s).trig = s.trig ∧ (beginSweep c s).fwd = s.fwd
      ∧ (beginSweep c s).mgmt.items = s.mgmt.items ∧ (beginSweep c s).mgmt.timeBase = s.mgmt.timeBase
      ∧ (beginSweep c s).mgmt.respQ = s.mgmt.respQ ∧ (beginSweep c s).choices = s.choices
      ∧ (beginSweep c s).pending = s.pending := by
  unfold beginSweep; split <;> simp

@[simp] theorem carryNext_frame (s : State) :
    (carryNext s).held = s.held ∧ (carryNext s).seq.scanList = s.seq.scanList
      ∧ (carryNext s).seq.mode = s.seq.mode ∧ (carryNext s).seq.period = s.seq.period
      ∧ (carryNext s).seq.maxOut = s.seq.maxOut ∧ (carryNext s).seq.sweepNo = s.seq.sweepNo
      ∧ (carryNext s).seq.periodTimer = s.seq.periodTimer ∧ (carryNext s).seq.latch = s.seq.latch
      ∧ (carryNext s).seq.stopPending = s.seq.stopPending ∧ (carryNext s).seq.ctr = s.seq.ctr
      ∧ (carryNext s).req.retryQ = s.req.retryQ ∧ (carryNext s).asm = s.asm ∧ (carryNext s).store = s.store
      ∧ (carryNext s).ret = s.ret ∧ (carryNext s).del = s.del ∧ (carryNext s).portH = s.portH
      ∧ (carryNext s).portN = s.portN ∧ (carryNext s).frameTurn = s.frameTurn
      ∧ (carryNext s).sourceTurn = s.sourceTurn ∧ (carryNext s).trig = s.trig ∧ (carryNext s).fwd = s.fwd
      ∧ (carryNext s).mgmt = s.mgmt ∧ (carryNext s).choices = s.choices ∧ (carryNext s).pending = s.pending := by
  unfold carryNext; split <;> simp

@[simp] theorem takeContender_frame (a : Option StartCause) (k : Contender) (s : State) :
    ((takeContender a k s).2).held = s.held ∧ ((takeContender a k s).2).seq.scanList = s.seq.scanList
      ∧ ((takeContender a k s).2).seq.st = s.seq.st ∧ ((takeContender a k s).2).seq.mode = s.seq.mode
      ∧ ((takeContender a k s).2).seq.period = s.seq.period
      ∧ ((takeContender a k s).2).seq.maxOut = s.seq.maxOut
      ∧ ((takeContender a k s).2).seq.sweepNo = s.seq.sweepNo
      ∧ ((takeContender a k s).2).seq.periodTimer = s.seq.periodTimer
      ∧ ((takeContender a k s).2).seq.stopPending = s.seq.stopPending
      ∧ ((takeContender a k s).2).seq.available = s.seq.available
      ∧ ((takeContender a k s).2).seq.remaining = s.seq.remaining ∧ ((takeContender a k s).2).req = s.req
      ∧ ((takeContender a k s).2).asm = s.asm ∧ ((takeContender a k s).2).store = s.store
      ∧ ((takeContender a k s).2).ret = s.ret ∧ ((takeContender a k s).2).del = s.del
      ∧ ((takeContender a k s).2).portH = s.portH ∧ ((takeContender a k s).2).portN = s.portN
      ∧ ((takeContender a k s).2).frameTurn = s.frameTurn ∧ ((takeContender a k s).2).sourceTurn = s.sourceTurn
      ∧ ((takeContender a k s).2).trig.map = s.trig.map ∧ ((takeContender a k s).2).trig.lines = s.trig.lines
      ∧ ((takeContender a k s).2).fwd = s.fwd ∧ ((takeContender a k s).2).mgmt.items = s.mgmt.items
      ∧ ((takeContender a k s).2).mgmt.timeBase = s.mgmt.timeBase
      ∧ ((takeContender a k s).2).mgmt.respQ = s.mgmt.respQ ∧ ((takeContender a k s).2).choices = s.choices
      ∧ ((takeContender a k s).2).pending = s.pending := by
  unfold takeContender; (repeat' split) <;> simp

theorem pickContender_state {cs : List Contender} {s : State} {c : Contender} {t : State}
    (h : pickContender cs s = some (c, t)) : t = s ∨ t = { s with choices := s.choices + 1 } := by
  unfold pickContender at h; split at h <;> simp_all
theorem entryStart_eq {a : Option StartCause} {s : State} {c : StartCause} {t : State}
    (h : entryStart a s = some (c, t)) :
    ∃ k u, (u = s ∨ u = { s with choices := s.choices + 1 }) ∧ (c, t) = takeContender a k u := by
  unfold entryStart at h; split at h
  · cases h
  · rename_i k u hp; exact ⟨k, u, pickContender_state hp, (Option.some.inj h).symm⟩

theorem entryStart_frame {a : Option StartCause} {s : State} {c : StartCause} {t : State}
    (h : entryStart a s = some (c, t)) :
    t.held = s.held ∧ t.seq.scanList = s.seq.scanList ∧ t.seq.st = s.seq.st ∧ t.seq.mode = s.seq.mode
      ∧ t.seq.period = s.seq.period ∧ t.seq.maxOut = s.seq.maxOut ∧ t.seq.sweepNo = s.seq.sweepNo
      ∧ t.seq.periodTimer = s.seq.periodTimer ∧ t.seq.stopPending = s.seq.stopPending
      ∧ t.seq.available = s.seq.available ∧ t.seq.remaining = s.seq.remaining ∧ t.req = s.req ∧ t.asm = s.asm
      ∧ t.store = s.store ∧ t.ret = s.ret ∧ t.del = s.del ∧ t.portH = s.portH ∧ t.portN = s.portN
      ∧ t.frameTurn = s.frameTurn ∧ t.sourceTurn = s.sourceTurn ∧ t.trig.map = s.trig.map
      ∧ t.trig.lines = s.trig.lines ∧ t.fwd = s.fwd ∧ t.mgmt.items = s.mgmt.items
      ∧ t.mgmt.timeBase = s.mgmt.timeBase ∧ t.mgmt.respQ = s.mgmt.respQ ∧ t.pending = s.pending := by
  obtain ⟨k, u, hu, hk⟩ := entryStart_eq h
  have := congrArg Prod.snd hk; simp only at this; subst this
  rcases hu with rfl | rfl <;> simp

@[simp] theorem settle_frame (fuel : Nat) (s : State) :
    (settle fuel s).held = s.held ∧ (settle fuel s).seq.scanList = s.seq.scanList
      ∧ (settle fuel s).seq.mode = s.seq.mode ∧ (settle fuel s).seq.period = s.seq.period
      ∧ (settle fuel s).seq.maxOut = s.seq.maxOut ∧ (settle fuel s).req.retryQ = s.req.retryQ
      ∧ (settle fuel s).ret.ackedThrough = s.ret.ackedThrough ∧ (settle fuel s).ret.floor = s.ret.floor
      ∧ (settle fuel s).del = s.del ∧ (settle fuel s).portH = s.portH ∧ (settle fuel s).portN = s.portN
      ∧ (settle fuel s).frameTurn = s.frameTurn ∧ (settle fuel s).sourceTurn = s.sourceTurn
      ∧ (settle fuel s).trig.map = s.trig.map ∧ (settle fuel s).trig.lines = s.trig.lines
      ∧ (settle fuel s).fwd = s.fwd ∧ (settle fuel s).mgmt.items = s.mgmt.items
      ∧ (settle fuel s).mgmt.timeBase = s.mgmt.timeBase ∧ (settle fuel s).mgmt.respQ = s.mgmt.respQ
      ∧ (settle fuel s).pending = s.pending := by
  induction fuel generalizing s with
  | zero => simp [settle]
  | succ k ih =>
    unfold settle; split
    · split
      · simp
      · rename_i h; simp [ih, entryStart_frame h]
    · simp

@[simp] theorem settled_frame (s : State) :
    (settled s).held = s.held ∧ (settled s).seq.scanList = s.seq.scanList ∧ (settled s).seq.mode = s.seq.mode
      ∧ (settled s).seq.period = s.seq.period ∧ (settled s).seq.maxOut = s.seq.maxOut
      ∧ (settled s).req.retryQ = s.req.retryQ ∧ (settled s).ret.ackedThrough = s.ret.ackedThrough
      ∧ (settled s).ret.floor = s.ret.floor ∧ (settled s).del = s.del ∧ (settled s).portH = s.portH
      ∧ (settled s).portN = s.portN ∧ (settled s).frameTurn = s.frameTurn
      ∧ (settled s).sourceTurn = s.sourceTurn ∧ (settled s).trig.map = s.trig.map
      ∧ (settled s).trig.lines = s.trig.lines ∧ (settled s).fwd = s.fwd ∧ (settled s).mgmt.items = s.mgmt.items
      ∧ (settled s).mgmt.timeBase = s.mgmt.timeBase ∧ (settled s).mgmt.respQ = s.mgmt.respQ
      ∧ (settled s).pending = s.pending := by
  simp [settled]

@[simp] theorem enterStepPause_frame (s : State) :
    (enterStepPause s).held = s.held ∧ (enterStepPause s).seq.scanList = s.seq.scanList
      ∧ (enterStepPause s).seq.mode = s.seq.mode ∧ (enterStepPause s).seq.period = s.seq.period
      ∧ (enterStepPause s).seq.maxOut = s.seq.maxOut ∧ (enterStepPause s).seq.sweepNo = s.seq.sweepNo
      ∧ (enterStepPause s).seq.periodTimer = s.seq.periodTimer
      ∧ (enterStepPause s).seq.stopPending = s.seq.stopPending ∧ (enterStepPause s).req.retryQ = s.req.retryQ
      ∧ (enterStepPause s).asm = s.asm ∧ (enterStepPause s).store = s.store ∧ (enterStepPause s).ret = s.ret
      ∧ (enterStepPause s).del = s.del ∧ (enterStepPause s).portH = s.portH
      ∧ (enterStepPause s).portN = s.portN ∧ (enterStepPause s).frameTurn = s.frameTurn
      ∧ (enterStepPause s).sourceTurn = s.sourceTurn ∧ (enterStepPause s).trig.map = s.trig.map
      ∧ (enterStepPause s).trig.lines = s.trig.lines ∧ (enterStepPause s).fwd = s.fwd
      ∧ (enterStepPause s).mgmt.items = s.mgmt.items ∧ (enterStepPause s).mgmt.timeBase = s.mgmt.timeBase
      ∧ (enterStepPause s).mgmt.respQ = s.mgmt.respQ ∧ (enterStepPause s).pending = s.pending := by
  unfold enterStepPause; dsimp only; split
  · simp
  · rename_i h; simp [entryStart_frame h]

@[simp] theorem deliverStart_frame (c : StartCause) (s : State) :
    ((deliverStart c s).2).held = s.held ∧ ((deliverStart c s).2).seq.scanList = s.seq.scanList
      ∧ ((deliverStart c s).2).seq.mode = s.seq.mode ∧ ((deliverStart c s).2).seq.period = s.seq.period
      ∧ ((deliverStart c s).2).seq.maxOut = s.seq.maxOut ∧ ((deliverStart c s).2).req.retryQ = s.req.retryQ
      ∧ ((deliverStart c s).2).ret.ackedThrough = s.ret.ackedThrough
      ∧ ((deliverStart c s).2).ret.floor = s.ret.floor ∧ ((deliverStart c s).2).del = s.del
      ∧ ((deliverStart c s).2).portH = s.portH ∧ ((deliverStart c s).2).portN = s.portN
      ∧ ((deliverStart c s).2).frameTurn = s.frameTurn ∧ ((deliverStart c s).2).sourceTurn = s.sourceTurn
      ∧ ((deliverStart c s).2).trig.map = s.trig.map ∧ ((deliverStart c s).2).trig.lines = s.trig.lines
      ∧ ((deliverStart c s).2).fwd = s.fwd ∧ ((deliverStart c s).2).mgmt.items = s.mgmt.items
      ∧ ((deliverStart c s).2).mgmt.timeBase = s.mgmt.timeBase
      ∧ ((deliverStart c s).2).mgmt.respQ = s.mgmt.respQ ∧ ((deliverStart c s).2).pending = s.pending := by
  unfold deliverStart; (repeat' split) <;> simp

@[simp] theorem offerLevel_frame (i : Fin 4) (s : State) :
    (offerLevel i s).held = s.held ∧ (offerLevel i s).seq.scanList = s.seq.scanList
      ∧ (offerLevel i s).seq.mode = s.seq.mode ∧ (offerLevel i s).seq.period = s.seq.period
      ∧ (offerLevel i s).seq.maxOut = s.seq.maxOut ∧ (offerLevel i s).req.retryQ = s.req.retryQ
      ∧ (offerLevel i s).ret.ackedThrough = s.ret.ackedThrough ∧ (offerLevel i s).ret.floor = s.ret.floor
      ∧ (offerLevel i s).del = s.del ∧ (offerLevel i s).portH = s.portH ∧ (offerLevel i s).portN = s.portN
      ∧ (offerLevel i s).frameTurn = s.frameTurn ∧ (offerLevel i s).sourceTurn = s.sourceTurn
      ∧ (offerLevel i s).trig.map = s.trig.map ∧ (offerLevel i s).trig.lines = s.trig.lines
      ∧ (offerLevel i s).fwd = s.fwd ∧ (offerLevel i s).mgmt.items = s.mgmt.items
      ∧ (offerLevel i s).mgmt.timeBase = s.mgmt.timeBase ∧ (offerLevel i s).mgmt.respQ = s.mgmt.respQ
      ∧ (offerLevel i s).pending = s.pending := by
  unfold offerLevel; split <;> simp

@[simp] theorem afterResult_frame (s : State) :
    (afterResult s).held = s.held ∧ (afterResult s).seq.scanList = s.seq.scanList
      ∧ (afterResult s).seq.mode = s.seq.mode ∧ (afterResult s).seq.period = s.seq.period
      ∧ (afterResult s).seq.maxOut = s.seq.maxOut ∧ (afterResult s).req.retryQ = s.req.retryQ
      ∧ (afterResult s).ret.ackedThrough = s.ret.ackedThrough ∧ (afterResult s).ret.floor = s.ret.floor
      ∧ (afterResult s).del = s.del ∧ (afterResult s).portH = s.portH ∧ (afterResult s).portN = s.portN
      ∧ (afterResult s).frameTurn = s.frameTurn ∧ (afterResult s).sourceTurn = s.sourceTurn
      ∧ (afterResult s).trig.map = s.trig.map ∧ (afterResult s).trig.lines = s.trig.lines
      ∧ (afterResult s).fwd = s.fwd ∧ (afterResult s).mgmt.items = s.mgmt.items
      ∧ (afterResult s).mgmt.timeBase = s.mgmt.timeBase ∧ (afterResult s).mgmt.respQ = s.mgmt.respQ
      ∧ (afterResult s).pending = s.pending := by
  unfold afterResult; (repeat' split) <;> simp

@[simp] theorem retryAdmission_frame (s : State) :
    (retryAdmission s).held = s.held ∧ (retryAdmission s).seq.scanList = s.seq.scanList
      ∧ (retryAdmission s).seq.mode = s.seq.mode ∧ (retryAdmission s).seq.period = s.seq.period
      ∧ (retryAdmission s).seq.maxOut = s.seq.maxOut ∧ (retryAdmission s).req.retryQ = s.req.retryQ
      ∧ (retryAdmission s).ret.ackedThrough = s.ret.ackedThrough ∧ (retryAdmission s).ret.floor = s.ret.floor
      ∧ (retryAdmission s).del = s.del ∧ (retryAdmission s).portH = s.portH
      ∧ (retryAdmission s).portN = s.portN ∧ (retryAdmission s).frameTurn = s.frameTurn
      ∧ (retryAdmission s).sourceTurn = s.sourceTurn ∧ (retryAdmission s).trig.map = s.trig.map
      ∧ (retryAdmission s).trig.lines = s.trig.lines ∧ (retryAdmission s).fwd = s.fwd
      ∧ (retryAdmission s).mgmt.items = s.mgmt.items ∧ (retryAdmission s).mgmt.timeBase = s.mgmt.timeBase
      ∧ (retryAdmission s).mgmt.respQ = s.mgmt.respQ ∧ (retryAdmission s).pending = s.pending := by
  unfold retryAdmission; split <;> simp

@[simp] theorem armSequencer_frame (s : State) :
    (armSequencer s).held = s.held ∧ (armSequencer s).seq.scanList = s.seq.scanList
      ∧ (armSequencer s).seq.available = s.seq.available ∧ (armSequencer s).seq.remaining = s.seq.remaining
      ∧ (armSequencer s).seq.ctr = s.seq.ctr ∧ (armSequencer s).req = s.req ∧ (armSequencer s).asm = s.asm
      ∧ (armSequencer s).store = s.store ∧ (armSequencer s).ret = s.ret ∧ (armSequencer s).del = s.del
      ∧ (armSequencer s).portH = s.portH ∧ (armSequencer s).portN = s.portN
      ∧ (armSequencer s).frameTurn = s.frameTurn ∧ (armSequencer s).sourceTurn = s.sourceTurn
      ∧ (armSequencer s).trig = s.trig ∧ (armSequencer s).fwd = s.fwd ∧ (armSequencer s).mgmt = s.mgmt
      ∧ (armSequencer s).choices = s.choices ∧ (armSequencer s).pending = s.pending := by unfold armSequencer; simp

@[simp] theorem armWith_frame (now : Bool) (s : State) :
    (armWith now s).held = s.held ∧ (armWith now s).seq.scanList = s.seq.scanList
      ∧ (armWith now s).req.retryQ = s.req.retryQ ∧ (armWith now s).ret.ackedThrough = s.ret.ackedThrough
      ∧ (armWith now s).ret.floor = s.ret.floor ∧ (armWith now s).del = s.del ∧ (armWith now s).portH = s.portH
      ∧ (armWith now s).portN = s.portN ∧ (armWith now s).frameTurn = s.frameTurn
      ∧ (armWith now s).sourceTurn = s.sourceTurn ∧ (armWith now s).trig.map = s.trig.map
      ∧ (armWith now s).trig.lines = s.trig.lines ∧ (armWith now s).fwd = s.fwd
      ∧ (armWith now s).mgmt.items = s.mgmt.items ∧ (armWith now s).mgmt.timeBase = s.mgmt.timeBase
      ∧ (armWith now s).mgmt.respQ = s.mgmt.respQ ∧ (armWith now s).pending = s.pending := by
  unfold armWith; dsimp only; split
  · split
    · simp
    · rename_i h; simp [entryStart_frame h]
  · split <;> simp

@[simp] theorem markHeldFinal_frame (s : State) :
    (markHeldFinal s).held = s.held ∧ (markHeldFinal s).seq = s.seq ∧ (markHeldFinal s).req = s.req
      ∧ (markHeldFinal s).asm.pendingGap = s.asm.pendingGap ∧ (markHeldFinal s).store = s.store
      ∧ (markHeldFinal s).ret = s.ret ∧ (markHeldFinal s).del = s.del ∧ (markHeldFinal s).portH = s.portH
      ∧ (markHeldFinal s).portN = s.portN ∧ (markHeldFinal s).frameTurn = s.frameTurn
      ∧ (markHeldFinal s).sourceTurn = s.sourceTurn ∧ (markHeldFinal s).trig = s.trig
      ∧ (markHeldFinal s).fwd = s.fwd ∧ (markHeldFinal s).mgmt = s.mgmt ∧ (markHeldFinal s).choices = s.choices
      ∧ (markHeldFinal s).pending = s.pending := by
  unfold markHeldFinal; split <;> simp

@[simp] theorem stopSequencer_frame (s : State) :
    (stopSequencer s).held = s.held ∧ (stopSequencer s).seq.scanList = s.seq.scanList
      ∧ (stopSequencer s).seq.mode = s.seq.mode ∧ (stopSequencer s).seq.period = s.seq.period
      ∧ (stopSequencer s).seq.maxOut = s.seq.maxOut ∧ (stopSequencer s).seq.sweepNo = s.seq.sweepNo
      ∧ (stopSequencer s).req = s.req ∧ (stopSequencer s).ret.ackedThrough = s.ret.ackedThrough
      ∧ (stopSequencer s).ret.floor = s.ret.floor ∧ (stopSequencer s).del = s.del
      ∧ (stopSequencer s).portH = s.portH ∧ (stopSequencer s).portN = s.portN
      ∧ (stopSequencer s).frameTurn = s.frameTurn ∧ (stopSequencer s).sourceTurn = s.sourceTurn
      ∧ (stopSequencer s).trig = s.trig ∧ (stopSequencer s).fwd = s.fwd
      ∧ (stopSequencer s).mgmt.items = s.mgmt.items ∧ (stopSequencer s).mgmt.timeBase = s.mgmt.timeBase
      ∧ (stopSequencer s).mgmt.respQ = s.mgmt.respQ ∧ (stopSequencer s).choices = s.choices
      ∧ (stopSequencer s).pending = s.pending := by
  unfold stopSequencer; split <;> simp

@[simp] theorem abandonFrame_frame (s : State) :
    (abandonFrame s).held = s.held ∧ (abandonFrame s).seq.scanList = s.seq.scanList
      ∧ (abandonFrame s).seq.st = s.seq.st ∧ (abandonFrame s).seq.mode = s.seq.mode
      ∧ (abandonFrame s).seq.period = s.seq.period ∧ (abandonFrame s).seq.maxOut = s.seq.maxOut
      ∧ (abandonFrame s).seq.sweepNo = s.seq.sweepNo ∧ (abandonFrame s).seq.periodTimer = s.seq.periodTimer
      ∧ (abandonFrame s).seq.latch = s.seq.latch ∧ (abandonFrame s).seq.stopPending = s.seq.stopPending
      ∧ (abandonFrame s).seq.available = s.seq.available ∧ (abandonFrame s).seq.remaining = s.seq.remaining
      ∧ (abandonFrame s).req = s.req ∧ (abandonFrame s).asm.pendingGap = s.asm.pendingGap
      ∧ (abandonFrame s).store = s.store ∧ (abandonFrame s).ret = s.ret ∧ (abandonFrame s).del = s.del
      ∧ (abandonFrame s).portH = s.portH ∧ (abandonFrame s).portN = s.portN
      ∧ (abandonFrame s).frameTurn = s.frameTurn ∧ (abandonFrame s).sourceTurn = s.sourceTurn
      ∧ (abandonFrame s).trig = s.trig ∧ (abandonFrame s).fwd = s.fwd ∧ (abandonFrame s).mgmt = s.mgmt
      ∧ (abandonFrame s).choices = s.choices ∧ (abandonFrame s).pending = s.pending := by
  unfold abandonFrame; split <;> simp

@[simp] theorem haltSequencer_frame (cause : IdleCause) (s : State) :
    (haltSequencer cause s).held = s.held ∧ (haltSequencer cause s).seq.scanList = s.seq.scanList
      ∧ (haltSequencer cause s).seq.mode = s.seq.mode ∧ (haltSequencer cause s).seq.period = s.seq.period
      ∧ (haltSequencer cause s).seq.maxOut = s.seq.maxOut ∧ (haltSequencer cause s).seq.sweepNo = s.seq.sweepNo
      ∧ (haltSequencer cause s).asm.pendingGap = s.asm.pendingGap ∧ (haltSequencer cause s).store = s.store
      ∧ (haltSequencer cause s).ret = s.ret ∧ (haltSequencer cause s).del = s.del
      ∧ (haltSequencer cause s).portH = s.portH ∧ (haltSequencer cause s).portN = s.portN
      ∧ (haltSequencer cause s).frameTurn = s.frameTurn ∧ (haltSequencer cause s).sourceTurn = s.sourceTurn
      ∧ (haltSequencer cause s).trig = s.trig ∧ (haltSequencer cause s).fwd = s.fwd
      ∧ (haltSequencer cause s).mgmt.items = s.mgmt.items
      ∧ (haltSequencer cause s).mgmt.timeBase = s.mgmt.timeBase
      ∧ (haltSequencer cause s).mgmt.respQ = s.mgmt.respQ ∧ (haltSequencer cause s).choices = s.choices
      ∧ (haltSequencer cause s).pending = s.pending := by unfold haltSequencer; split <;> simp

@[simp] theorem sequencerLinkDown_frame (s : State) :
    (sequencerLinkDown s).held = s.held ∧ (sequencerLinkDown s).seq.scanList = s.seq.scanList
      ∧ (sequencerLinkDown s).seq.mode = s.seq.mode ∧ (sequencerLinkDown s).seq.period = s.seq.period
      ∧ (sequencerLinkDown s).seq.maxOut = s.seq.maxOut ∧ (sequencerLinkDown s).seq.sweepNo = s.seq.sweepNo
      ∧ (sequencerLinkDown s).ret.ackedThrough = s.ret.ackedThrough
      ∧ (sequencerLinkDown s).ret.floor = s.ret.floor ∧ (sequencerLinkDown s).del = s.del
      ∧ (sequencerLinkDown s).portH = s.portH ∧ (sequencerLinkDown s).portN = s.portN
      ∧ (sequencerLinkDown s).frameTurn = s.frameTurn ∧ (sequencerLinkDown s).sourceTurn = s.sourceTurn
      ∧ (sequencerLinkDown s).trig = s.trig ∧ (sequencerLinkDown s).fwd = s.fwd
      ∧ (sequencerLinkDown s).mgmt.items = s.mgmt.items ∧ (sequencerLinkDown s).mgmt.timeBase = s.mgmt.timeBase
      ∧ (sequencerLinkDown s).mgmt.respQ = s.mgmt.respQ ∧ (sequencerLinkDown s).choices = s.choices
      ∧ (sequencerLinkDown s).pending = s.pending := by
  unfold sequencerLinkDown; split <;> simp

@[simp] theorem sequencerLinkUp_frame (s : State) :
    (sequencerLinkUp s).held = s.held ∧ (sequencerLinkUp s).seq.scanList = s.seq.scanList
      ∧ (sequencerLinkUp s).seq.mode = s.seq.mode ∧ (sequencerLinkUp s).seq.period = s.seq.period
      ∧ (sequencerLinkUp s).seq.maxOut = s.seq.maxOut ∧ (sequencerLinkUp s).req.retryQ = s.req.retryQ
      ∧ (sequencerLinkUp s).ret.ackedThrough = s.ret.ackedThrough ∧ (sequencerLinkUp s).ret.floor = s.ret.floor
      ∧ (sequencerLinkUp s).del = s.del ∧ (sequencerLinkUp s).portH = s.portH
      ∧ (sequencerLinkUp s).portN = s.portN ∧ (sequencerLinkUp s).frameTurn = s.frameTurn
      ∧ (sequencerLinkUp s).sourceTurn = s.sourceTurn ∧ (sequencerLinkUp s).trig.map = s.trig.map
      ∧ (sequencerLinkUp s).trig.lines = s.trig.lines ∧ (sequencerLinkUp s).fwd = s.fwd
      ∧ (sequencerLinkUp s).mgmt.items = s.mgmt.items ∧ (sequencerLinkUp s).mgmt.timeBase = s.mgmt.timeBase
      ∧ (sequencerLinkUp s).mgmt.respQ = s.mgmt.respQ ∧ (sequencerLinkUp s).pending = s.pending := by
  unfold sequencerLinkUp; split <;> simp

@[simp] theorem endSession_frame (c : EndCause) (s : State) :
    (endSession c s).held = s.held ∧ (endSession c s).seq = s.seq ∧ (endSession c s).req = s.req
      ∧ (endSession c s).asm = s.asm ∧ (endSession c s).store = s.store
      ∧ (endSession c s).ret.ackedThrough = s.ret.ackedThrough
      ∧ (endSession c s).ret.bookmarks = s.ret.bookmarks ∧ (endSession c s).del.credit = s.del.credit
      ∧ (endSession c s).del.liveCursor = s.del.liveCursor ∧ (endSession c s).del.framesSent = s.del.framesSent
      ∧ (endSession c s).portH = s.portH ∧ (endSession c s).portN = s.portN
      ∧ (endSession c s).frameTurn = s.frameTurn ∧ (endSession c s).sourceTurn = s.sourceTurn
      ∧ (endSession c s).trig = s.trig ∧ (endSession c s).fwd = s.fwd
      ∧ (endSession c s).mgmt.items = s.mgmt.items ∧ (endSession c s).mgmt.timeBase = s.mgmt.timeBase
      ∧ (endSession c s).mgmt.respQ = s.mgmt.respQ ∧ (endSession c s).choices = s.choices
      ∧ (endSession c s).pending = s.pending := by
  unfold endSession; split <;> simp

@[simp] theorem beginH_frame (p : Packet) (s : State) :
    (beginH p s).held = s.held ∧ (beginH p s).seq = s.seq ∧ (beginH p s).req = s.req ∧ (beginH p s).asm = s.asm
      ∧ (beginH p s).store = s.store ∧ (beginH p s).ret = s.ret ∧ (beginH p s).del = s.del
      ∧ (beginH p s).portH.link = s.portH.link ∧ (beginH p s).portH.silence = s.portH.silence
      ∧ (beginH p s).portH.keepalive = s.portH.keepalive ∧ (beginH p s).portH.rx = s.portH.rx
      ∧ (beginH p s).portN = s.portN ∧ (beginH p s).frameTurn = s.frameTurn
      ∧ (beginH p s).sourceTurn = s.sourceTurn ∧ (beginH p s).trig = s.trig ∧ (beginH p s).fwd = s.fwd
      ∧ (beginH p s).mgmt = s.mgmt ∧ (beginH p s).choices = s.choices ∧ (beginH p s).pending = s.pending := by
  simp [beginH, beginPacket]

@[simp] theorem followLive_frame (s : State) :
    (followLive s).held = s.held ∧ (followLive s).seq = s.seq ∧ (followLive s).req = s.req
      ∧ (followLive s).asm = s.asm ∧ (followLive s).store = s.store
      ∧ (followLive s).ret.bookmarks = s.ret.bookmarks ∧ (followLive s).del = s.del
      ∧ (followLive s).portH = s.portH ∧ (followLive s).portN = s.portN
      ∧ (followLive s).frameTurn = s.frameTurn ∧ (followLive s).sourceTurn = s.sourceTurn
      ∧ (followLive s).trig = s.trig ∧ (followLive s).fwd = s.fwd ∧ (followLive s).mgmt = s.mgmt
      ∧ (followLive s).choices = s.choices ∧ (followLive s).pending = s.pending := by
  unfold followLive; split <;> simp

@[simp] theorem beginSwf_frame (f : StoredFrame) (s : State) :
    (beginSwf f s).held = s.held ∧ (beginSwf f s).seq = s.seq ∧ (beginSwf f s).req = s.req
      ∧ (beginSwf f s).asm = s.asm ∧ (beginSwf f s).store = s.store
      ∧ (beginSwf f s).ret.bookmarks = s.ret.bookmarks ∧ (beginSwf f s).del.session = s.del.session
      ∧ (beginSwf f s).del.framesSent = s.del.framesSent ∧ (beginSwf f s).portH.link = s.portH.link
      ∧ (beginSwf f s).portH.silence = s.portH.silence ∧ (beginSwf f s).portH.keepalive = s.portH.keepalive
      ∧ (beginSwf f s).portH.rx = s.portH.rx ∧ (beginSwf f s).portN = s.portN
      ∧ (beginSwf f s).sourceTurn = s.sourceTurn ∧ (beginSwf f s).trig = s.trig ∧ (beginSwf f s).fwd = s.fwd
      ∧ (beginSwf f s).mgmt = s.mgmt ∧ (beginSwf f s).choices = s.choices ∧ (beginSwf f s).pending = s.pending := by
  simp [beginSwf]

@[simp] theorem advanceSession_frame (s : State) :
    (advanceSession s).held = s.held ∧ (advanceSession s).seq = s.seq ∧ (advanceSession s).req = s.req
      ∧ (advanceSession s).asm = s.asm ∧ (advanceSession s).store = s.store
      ∧ (advanceSession s).ret.ackedThrough = s.ret.ackedThrough
      ∧ (advanceSession s).ret.bookmarks = s.ret.bookmarks ∧ (advanceSession s).del.credit = s.del.credit
      ∧ (advanceSession s).del.liveCursor = s.del.liveCursor
      ∧ (advanceSession s).del.framesSent = s.del.framesSent ∧ (advanceSession s).portH = s.portH
      ∧ (advanceSession s).portN = s.portN ∧ (advanceSession s).frameTurn = s.frameTurn
      ∧ (advanceSession s).sourceTurn = s.sourceTurn ∧ (advanceSession s).trig = s.trig
      ∧ (advanceSession s).fwd = s.fwd ∧ (advanceSession s).mgmt.items = s.mgmt.items
      ∧ (advanceSession s).mgmt.timeBase = s.mgmt.timeBase ∧ (advanceSession s).mgmt.respQ = s.mgmt.respQ
      ∧ (advanceSession s).choices = s.choices ∧ (advanceSession s).pending = s.pending := by
  unfold advanceSession; (repeat' split) <;> simp

@[simp] theorem beginRpf_frame (f : StoredFrame) (s : State) :
    (beginRpf f s).held = s.held ∧ (beginRpf f s).seq = s.seq ∧ (beginRpf f s).req = s.req
      ∧ (beginRpf f s).asm = s.asm ∧ (beginRpf f s).store = s.store
      ∧ (beginRpf f s).ret.ackedThrough = s.ret.ackedThrough ∧ (beginRpf f s).ret.bookmarks = s.ret.bookmarks
      ∧ (beginRpf f s).del.liveCursor = s.del.liveCursor ∧ (beginRpf f s).portH.link = s.portH.link
      ∧ (beginRpf f s).portH.silence = s.portH.silence ∧ (beginRpf f s).portH.keepalive = s.portH.keepalive
      ∧ (beginRpf f s).portH.rx = s.portH.rx ∧ (beginRpf f s).portN = s.portN
      ∧ (beginRpf f s).sourceTurn = s.sourceTurn ∧ (beginRpf f s).trig = s.trig ∧ (beginRpf f s).fwd = s.fwd
      ∧ (beginRpf f s).mgmt.items = s.mgmt.items ∧ (beginRpf f s).mgmt.timeBase = s.mgmt.timeBase
      ∧ (beginRpf f s).mgmt.respQ = s.mgmt.respQ ∧ (beginRpf f s).choices = s.choices
      ∧ (beginRpf f s).pending = s.pending := by
  simp [beginRpf]

@[simp] theorem takeFrame_frame (s : State) :
    (takeFrame s).held = s.held ∧ (takeFrame s).seq = s.seq ∧ (takeFrame s).req = s.req
      ∧ (takeFrame s).asm = s.asm ∧ (takeFrame s).store = s.store
      ∧ (takeFrame s).ret.bookmarks = s.ret.bookmarks ∧ (takeFrame s).portH.link = s.portH.link
      ∧ (takeFrame s).portH.silence = s.portH.silence ∧ (takeFrame s).portH.keepalive = s.portH.keepalive
      ∧ (takeFrame s).portH.rx = s.portH.rx ∧ (takeFrame s).portN = s.portN
      ∧ (takeFrame s).sourceTurn = s.sourceTurn ∧ (takeFrame s).trig = s.trig ∧ (takeFrame s).fwd = s.fwd
      ∧ (takeFrame s).mgmt.items = s.mgmt.items ∧ (takeFrame s).mgmt.timeBase = s.mgmt.timeBase
      ∧ (takeFrame s).mgmt.respQ = s.mgmt.respQ ∧ (takeFrame s).choices = s.choices
      ∧ (takeFrame s).pending = s.pending := by
  unfold takeFrame; (repeat' split) <;> simp

@[simp] theorem takeH_frame (s : State) :
    (takeH s).held = s.held ∧ (takeH s).seq = s.seq ∧ (takeH s).req = s.req ∧ (takeH s).asm = s.asm
      ∧ (takeH s).store = s.store ∧ (takeH s).ret.bookmarks = s.ret.bookmarks
      ∧ (takeH s).portH.link = s.portH.link ∧ (takeH s).portH.silence = s.portH.silence
      ∧ (takeH s).portH.keepalive = s.portH.keepalive ∧ (takeH s).portH.rx = s.portH.rx
      ∧ (takeH s).portN = s.portN ∧ (takeH s).sourceTurn = s.sourceTurn ∧ (takeH s).trig = s.trig
      ∧ (takeH s).fwd.fqN = s.fwd.fqN ∧ (takeH s).fwd.table = s.fwd.table
      ∧ (takeH s).fwd.defaultHits = s.fwd.defaultHits ∧ (takeH s).mgmt.items = s.mgmt.items
      ∧ (takeH s).mgmt.timeBase = s.mgmt.timeBase ∧ (takeH s).choices = s.choices
      ∧ (takeH s).pending = s.pending := by
  unfold takeH; (repeat' split) <;> simp

@[simp] theorem pumpH_frame (s : State) :
    (pumpH s).held = s.held ∧ (pumpH s).seq = s.seq ∧ (pumpH s).req = s.req ∧ (pumpH s).asm = s.asm
      ∧ (pumpH s).store = s.store ∧ (pumpH s).ret.bookmarks = s.ret.bookmarks
      ∧ (pumpH s).portH.link = s.portH.link ∧ (pumpH s).portH.silence = s.portH.silence
      ∧ (pumpH s).portH.keepalive = s.portH.keepalive ∧ (pumpH s).portH.rx = s.portH.rx
      ∧ (pumpH s).portN = s.portN ∧ (pumpH s).sourceTurn = s.sourceTurn ∧ (pumpH s).trig = s.trig
      ∧ (pumpH s).fwd.fqN = s.fwd.fqN ∧ (pumpH s).fwd.table = s.fwd.table
      ∧ (pumpH s).fwd.defaultHits = s.fwd.defaultHits ∧ (pumpH s).mgmt.items = s.mgmt.items
      ∧ (pumpH s).mgmt.timeBase = s.mgmt.timeBase ∧ (pumpH s).choices = s.choices
      ∧ (pumpH s).pending = s.pending := by
  unfold pumpH; (repeat' split) <;> simp

@[simp] theorem beginN_frame (p : Packet) (x : LinkSource) (s : State) :
    (beginN p x s).held = s.held ∧ (beginN p x s).seq = s.seq ∧ (beginN p x s).req = s.req
      ∧ (beginN p x s).asm = s.asm ∧ (beginN p x s).store = s.store ∧ (beginN p x s).ret = s.ret
      ∧ (beginN p x s).del = s.del ∧ (beginN p x s).portH = s.portH ∧ (beginN p x s).portN.link = s.portN.link
      ∧ (beginN p x s).portN.silence = s.portN.silence ∧ (beginN p x s).portN.keepalive = s.portN.keepalive
      ∧ (beginN p x s).portN.rx = s.portN.rx ∧ (beginN p x s).frameTurn = s.frameTurn
      ∧ (beginN p x s).trig = s.trig ∧ (beginN p x s).fwd = s.fwd ∧ (beginN p x s).mgmt = s.mgmt
      ∧ (beginN p x s).choices = s.choices ∧ (beginN p x s).pending = s.pending := by
  simp [beginN, beginPacket]

@[simp] theorem sendRequest_frame (i : Fin 4) (s : State) :
    (sendRequest i s).held = s.held ∧ (sendRequest i s).seq = s.seq ∧ (sendRequest i s).asm = s.asm
      ∧ (sendRequest i s).store = s.store ∧ (sendRequest i s).ret = s.ret ∧ (sendRequest i s).del = s.del
      ∧ (sendRequest i s).portH = s.portH ∧ (sendRequest i s).portN.link = s.portN.link
      ∧ (sendRequest i s).portN.silence = s.portN.silence
      ∧ (sendRequest i s).portN.keepalive = s.portN.keepalive ∧ (sendRequest i s).portN.rx = s.portN.rx
      ∧ (sendRequest i s).frameTurn = s.frameTurn ∧ (sendRequest i s).trig = s.trig
      ∧ (sendRequest i s).fwd = s.fwd ∧ (sendRequest i s).mgmt = s.mgmt ∧ (sendRequest i s).choices = s.choices
      ∧ (sendRequest i s).pending = s.pending := by unfold sendRequest setUse; split <;> simp

@[simp] theorem sendForward_frame (p : Packet) (r : List Packet) (s : State) :
    (sendForward p r s).held = s.held ∧ (sendForward p r s).seq = s.seq ∧ (sendForward p r s).req = s.req
      ∧ (sendForward p r s).asm = s.asm ∧ (sendForward p r s).store = s.store ∧ (sendForward p r s).ret = s.ret
      ∧ (sendForward p r s).del = s.del ∧ (sendForward p r s).portH = s.portH
      ∧ (sendForward p r s).portN.link = s.portN.link ∧ (sendForward p r s).portN.silence = s.portN.silence
      ∧ (sendForward p r s).portN.keepalive = s.portN.keepalive ∧ (sendForward p r s).portN.rx = s.portN.rx
      ∧ (sendForward p r s).frameTurn = s.frameTurn ∧ (sendForward p r s).trig = s.trig
      ∧ (sendForward p r s).fwd.fqH = s.fwd.fqH ∧ (sendForward p r s).fwd.table = s.fwd.table
      ∧ (sendForward p r s).fwd.defaultHits = s.fwd.defaultHits ∧ (sendForward p r s).mgmt = s.mgmt
      ∧ (sendForward p r s).choices = s.choices ∧ (sendForward p r s).pending = s.pending := by unfold sendForward; simp

@[simp] theorem takeN_frame (s : State) :
    (takeN s).held = s.held ∧ (takeN s).seq = s.seq ∧ (takeN s).asm = s.asm ∧ (takeN s).store = s.store
      ∧ (takeN s).ret = s.ret ∧ (takeN s).del = s.del ∧ (takeN s).portH = s.portH
      ∧ (takeN s).portN.link = s.portN.link ∧ (takeN s).portN.silence = s.portN.silence
      ∧ (takeN s).portN.keepalive = s.portN.keepalive ∧ (takeN s).portN.rx = s.portN.rx
      ∧ (takeN s).frameTurn = s.frameTurn ∧ (takeN s).trig = s.trig ∧ (takeN s).fwd.fqH = s.fwd.fqH
      ∧ (takeN s).fwd.table = s.fwd.table ∧ (takeN s).fwd.defaultHits = s.fwd.defaultHits
      ∧ (takeN s).mgmt = s.mgmt ∧ (takeN s).choices = s.choices ∧ (takeN s).pending = s.pending := by
  unfold takeN; (repeat' split) <;> simp

@[simp] theorem pumpN_frame (s : State) :
    (pumpN s).held = s.held ∧ (pumpN s).seq = s.seq ∧ (pumpN s).asm = s.asm ∧ (pumpN s).store = s.store
      ∧ (pumpN s).ret = s.ret ∧ (pumpN s).del = s.del ∧ (pumpN s).portH = s.portH
      ∧ (pumpN s).portN.link = s.portN.link ∧ (pumpN s).portN.silence = s.portN.silence
      ∧ (pumpN s).portN.keepalive = s.portN.keepalive ∧ (pumpN s).portN.rx = s.portN.rx
      ∧ (pumpN s).frameTurn = s.frameTurn ∧ (pumpN s).trig = s.trig ∧ (pumpN s).fwd.fqH = s.fwd.fqH
      ∧ (pumpN s).fwd.table = s.fwd.table ∧ (pumpN s).fwd.defaultHits = s.fwd.defaultHits
      ∧ (pumpN s).mgmt = s.mgmt ∧ (pumpN s).choices = s.choices ∧ (pumpN s).pending = s.pending := by
  unfold pumpN; (repeat' split) <;> simp

@[simp] theorem pump_frame (s : State) :
    (pump s).held = s.held ∧ (pump s).seq = s.seq ∧ (pump s).asm = s.asm ∧ (pump s).store = s.store
      ∧ (pump s).ret.bookmarks = s.ret.bookmarks ∧ (pump s).portH.link = s.portH.link
      ∧ (pump s).portH.silence = s.portH.silence ∧ (pump s).portH.keepalive = s.portH.keepalive
      ∧ (pump s).portH.rx = s.portH.rx ∧ (pump s).portN.link = s.portN.link
      ∧ (pump s).portN.silence = s.portN.silence ∧ (pump s).portN.keepalive = s.portN.keepalive
      ∧ (pump s).portN.rx = s.portN.rx ∧ (pump s).trig = s.trig ∧ (pump s).fwd.table = s.fwd.table
      ∧ (pump s).fwd.defaultHits = s.fwd.defaultHits ∧ (pump s).mgmt.items = s.mgmt.items
      ∧ (pump s).mgmt.timeBase = s.mgmt.timeBase ∧ (pump s).choices = s.choices ∧ (pump s).pending = s.pending := by
  simp [pump]

@[simp] theorem keepaliveH_frame (s : State) :
    (keepaliveH s).held = s.held ∧ (keepaliveH s).seq = s.seq ∧ (keepaliveH s).req = s.req
      ∧ (keepaliveH s).asm = s.asm ∧ (keepaliveH s).store = s.store ∧ (keepaliveH s).ret = s.ret
      ∧ (keepaliveH s).del = s.del ∧ (keepaliveH s).portH.link = s.portH.link
      ∧ (keepaliveH s).portH.silence = s.portH.silence ∧ (keepaliveH s).portH.keepalive = s.portH.keepalive
      ∧ (keepaliveH s).portH.rx = s.portH.rx ∧ (keepaliveH s).portN = s.portN
      ∧ (keepaliveH s).frameTurn = s.frameTurn ∧ (keepaliveH s).sourceTurn = s.sourceTurn
      ∧ (keepaliveH s).trig = s.trig ∧ (keepaliveH s).fwd = s.fwd ∧ (keepaliveH s).mgmt = s.mgmt
      ∧ (keepaliveH s).choices = s.choices ∧ (keepaliveH s).pending = s.pending := by
  unfold keepaliveH; (repeat' split) <;> simp

@[simp] theorem keepaliveN_frame (s : State) :
    (keepaliveN s).held = s.held ∧ (keepaliveN s).seq = s.seq ∧ (keepaliveN s).req = s.req
      ∧ (keepaliveN s).asm = s.asm ∧ (keepaliveN s).store = s.store ∧ (keepaliveN s).ret = s.ret
      ∧ (keepaliveN s).del = s.del ∧ (keepaliveN s).portH = s.portH ∧ (keepaliveN s).portN.link = s.portN.link
      ∧ (keepaliveN s).portN.silence = s.portN.silence ∧ (keepaliveN s).portN.keepalive = s.portN.keepalive
      ∧ (keepaliveN s).portN.rx = s.portN.rx ∧ (keepaliveN s).frameTurn = s.frameTurn
      ∧ (keepaliveN s).sourceTurn = s.sourceTurn ∧ (keepaliveN s).trig = s.trig ∧ (keepaliveN s).fwd = s.fwd
      ∧ (keepaliveN s).mgmt = s.mgmt ∧ (keepaliveN s).choices = s.choices ∧ (keepaliveN s).pending = s.pending := by unfold keepaliveN; split <;> (try split) <;> simp [beginPacket]

@[simp] theorem deliverAction_frame (i : Fin 8) (s : State) :
    (deliverAction i s).held = s.held ∧ (deliverAction i s).seq.scanList = s.seq.scanList
      ∧ (deliverAction i s).seq.mode = s.seq.mode ∧ (deliverAction i s).seq.period = s.seq.period
      ∧ (deliverAction i s).seq.maxOut = s.seq.maxOut
      ∧ (deliverAction i s).ret.ackedThrough = s.ret.ackedThrough ∧ (deliverAction i s).del = s.del
      ∧ (deliverAction i s).portH = s.portH ∧ (deliverAction i s).portN = s.portN
      ∧ (deliverAction i s).frameTurn = s.frameTurn ∧ (deliverAction i s).sourceTurn = s.sourceTurn
      ∧ (deliverAction i s).trig.map = s.trig.map ∧ (deliverAction i s).trig.lines = s.trig.lines
      ∧ (deliverAction i s).fwd = s.fwd ∧ (deliverAction i s).mgmt.items = s.mgmt.items
      ∧ (deliverAction i s).mgmt.timeBase = s.mgmt.timeBase ∧ (deliverAction i s).mgmt.respQ = s.mgmt.respQ
      ∧ (deliverAction i s).pending = s.pending := by unfold deliverAction; split <;> simp

@[simp] theorem fireSource_frame (i : Fin 8) (s : State) :
    (fireSource i s).held = s.held ∧ (fireSource i s).seq.scanList = s.seq.scanList
      ∧ (fireSource i s).seq.mode = s.seq.mode ∧ (fireSource i s).seq.period = s.seq.period
      ∧ (fireSource i s).seq.maxOut = s.seq.maxOut ∧ (fireSource i s).ret.ackedThrough = s.ret.ackedThrough
      ∧ (fireSource i s).del = s.del ∧ (fireSource i s).portH = s.portH ∧ (fireSource i s).portN = s.portN
      ∧ (fireSource i s).frameTurn = s.frameTurn ∧ (fireSource i s).sourceTurn = s.sourceTurn
      ∧ (fireSource i s).trig.map = s.trig.map ∧ (fireSource i s).trig.lines = s.trig.lines
      ∧ (fireSource i s).fwd = s.fwd ∧ (fireSource i s).mgmt.items = s.mgmt.items
      ∧ (fireSource i s).mgmt.timeBase = s.mgmt.timeBase ∧ (fireSource i s).mgmt.respQ = s.mgmt.respQ
      ∧ (fireSource i s).pending = s.pending := by
  simp [fireSource]

@[simp] theorem offerFqH_frame (p : Packet) (s : State) :
    (offerFqH p s).held = s.held ∧ (offerFqH p s).seq = s.seq ∧ (offerFqH p s).req = s.req
      ∧ (offerFqH p s).asm = s.asm ∧ (offerFqH p s).store = s.store ∧ (offerFqH p s).ret = s.ret
      ∧ (offerFqH p s).del = s.del ∧ (offerFqH p s).portH = s.portH ∧ (offerFqH p s).portN = s.portN
      ∧ (offerFqH p s).frameTurn = s.frameTurn ∧ (offerFqH p s).sourceTurn = s.sourceTurn
      ∧ (offerFqH p s).trig = s.trig ∧ (offerFqH p s).fwd.fqN = s.fwd.fqN
      ∧ (offerFqH p s).fwd.table = s.fwd.table ∧ (offerFqH p s).fwd.defaultHits = s.fwd.defaultHits
      ∧ (offerFqH p s).mgmt.items = s.mgmt.items ∧ (offerFqH p s).mgmt.timeBase = s.mgmt.timeBase
      ∧ (offerFqH p s).mgmt.respQ = s.mgmt.respQ ∧ (offerFqH p s).choices = s.choices
      ∧ (offerFqH p s).pending = s.pending := by
  unfold offerFqH; (repeat' split) <;> simp

@[simp] theorem offerFqN_frame (p : Packet) (s : State) :
    (offerFqN p s).held = s.held ∧ (offerFqN p s).seq = s.seq ∧ (offerFqN p s).req = s.req
      ∧ (offerFqN p s).asm = s.asm ∧ (offerFqN p s).store = s.store ∧ (offerFqN p s).ret = s.ret
      ∧ (offerFqN p s).del = s.del ∧ (offerFqN p s).portH = s.portH ∧ (offerFqN p s).portN = s.portN
      ∧ (offerFqN p s).frameTurn = s.frameTurn ∧ (offerFqN p s).sourceTurn = s.sourceTurn
      ∧ (offerFqN p s).trig = s.trig ∧ (offerFqN p s).fwd.fqH = s.fwd.fqH
      ∧ (offerFqN p s).fwd.table = s.fwd.table ∧ (offerFqN p s).fwd.defaultHits = s.fwd.defaultHits
      ∧ (offerFqN p s).mgmt.items = s.mgmt.items ∧ (offerFqN p s).mgmt.timeBase = s.mgmt.timeBase
      ∧ (offerFqN p s).mgmt.respQ = s.mgmt.respQ ∧ (offerFqN p s).choices = s.choices
      ∧ (offerFqN p s).pending = s.pending := by
  unfold offerFqN; (repeat' split) <;> simp

@[simp] theorem emptyFqH_frame (s : State) :
    (emptyFqH s).held = s.held ∧ (emptyFqH s).seq = s.seq ∧ (emptyFqH s).req = s.req ∧ (emptyFqH s).asm = s.asm
      ∧ (emptyFqH s).store = s.store ∧ (emptyFqH s).ret = s.ret ∧ (emptyFqH s).del = s.del
      ∧ (emptyFqH s).portH = s.portH ∧ (emptyFqH s).portN = s.portN ∧ (emptyFqH s).frameTurn = s.frameTurn
      ∧ (emptyFqH s).sourceTurn = s.sourceTurn ∧ (emptyFqH s).trig = s.trig ∧ (emptyFqH s).fwd.fqN = s.fwd.fqN
      ∧ (emptyFqH s).fwd.table = s.fwd.table ∧ (emptyFqH s).fwd.defaultHits = s.fwd.defaultHits
      ∧ (emptyFqH s).mgmt.items = s.mgmt.items ∧ (emptyFqH s).mgmt.timeBase = s.mgmt.timeBase
      ∧ (emptyFqH s).mgmt.respQ = s.mgmt.respQ ∧ (emptyFqH s).choices = s.choices
      ∧ (emptyFqH s).pending = s.pending := by
  unfold emptyFqH; split <;> simp

@[simp] theorem emptyFqN_frame (s : State) :
    (emptyFqN s).held = s.held ∧ (emptyFqN s).seq = s.seq ∧ (emptyFqN s).req = s.req ∧ (emptyFqN s).asm = s.asm
      ∧ (emptyFqN s).store = s.store ∧ (emptyFqN s).ret = s.ret ∧ (emptyFqN s).del = s.del
      ∧ (emptyFqN s).portH = s.portH ∧ (emptyFqN s).portN = s.portN ∧ (emptyFqN s).frameTurn = s.frameTurn
      ∧ (emptyFqN s).sourceTurn = s.sourceTurn ∧ (emptyFqN s).trig = s.trig ∧ (emptyFqN s).fwd.fqH = s.fwd.fqH
      ∧ (emptyFqN s).fwd.table = s.fwd.table ∧ (emptyFqN s).fwd.defaultHits = s.fwd.defaultHits
      ∧ (emptyFqN s).mgmt.items = s.mgmt.items ∧ (emptyFqN s).mgmt.timeBase = s.mgmt.timeBase
      ∧ (emptyFqN s).mgmt.respQ = s.mgmt.respQ ∧ (emptyFqN s).choices = s.choices
      ∧ (emptyFqN s).pending = s.pending := by
  unfold emptyFqN; split <;> simp

@[simp] theorem applyVerdict_frame (v : Verdict) (p : Packet) (s : State) :
    (applyVerdict v p s).held = s.held ∧ (applyVerdict v p s).seq = s.seq ∧ (applyVerdict v p s).req = s.req
      ∧ (applyVerdict v p s).asm = s.asm ∧ (applyVerdict v p s).store = s.store
      ∧ (applyVerdict v p s).ret = s.ret ∧ (applyVerdict v p s).del = s.del
      ∧ (applyVerdict v p s).portH = s.portH ∧ (applyVerdict v p s).portN = s.portN
      ∧ (applyVerdict v p s).frameTurn = s.frameTurn ∧ (applyVerdict v p s).sourceTurn = s.sourceTurn
      ∧ (applyVerdict v p s).trig = s.trig ∧ (applyVerdict v p s).fwd.fqN = s.fwd.fqN
      ∧ (applyVerdict v p s).fwd.table = s.fwd.table ∧ (applyVerdict v p s).fwd.defaultHits = s.fwd.defaultHits
      ∧ (applyVerdict v p s).mgmt.items = s.mgmt.items ∧ (applyVerdict v p s).mgmt.timeBase = s.mgmt.timeBase
      ∧ (applyVerdict v p s).mgmt.respQ = s.mgmt.respQ ∧ (applyVerdict v p s).choices = s.choices
      ∧ (applyVerdict v p s).pending = s.pending := by
  unfold applyVerdict; split <;> simp

@[simp] theorem triggerEffect_frame (t : Option SoftSource) (s : State) :
    (triggerEffect t s).held = s.held ∧ (triggerEffect t s).seq.scanList = s.seq.scanList
      ∧ (triggerEffect t s).seq.mode = s.seq.mode ∧ (triggerEffect t s).seq.period = s.seq.period
      ∧ (triggerEffect t s).seq.maxOut = s.seq.maxOut
      ∧ (triggerEffect t s).ret.ackedThrough = s.ret.ackedThrough ∧ (triggerEffect t s).del = s.del
      ∧ (triggerEffect t s).portH = s.portH ∧ (triggerEffect t s).portN = s.portN
      ∧ (triggerEffect t s).frameTurn = s.frameTurn ∧ (triggerEffect t s).sourceTurn = s.sourceTurn
      ∧ (triggerEffect t s).trig.map = s.trig.map ∧ (triggerEffect t s).trig.lines = s.trig.lines
      ∧ (triggerEffect t s).fwd.fqH = s.fwd.fqH ∧ (triggerEffect t s).fwd.fqN = s.fwd.fqN
      ∧ (triggerEffect t s).fwd.table = s.fwd.table ∧ (triggerEffect t s).fwd.defaultHits = s.fwd.defaultHits
      ∧ (triggerEffect t s).mgmt.items = s.mgmt.items ∧ (triggerEffect t s).mgmt.timeBase = s.mgmt.timeBase
      ∧ (triggerEffect t s).mgmt.respQ = s.mgmt.respQ ∧ (triggerEffect t s).pending = s.pending := by
  unfold triggerEffect; split <;> simp

@[simp] theorem markEffect_frame (m : Option (Fin 8)) (s : State) :
    (markEffect m s).held = s.held ∧ (markEffect m s).seq = s.seq ∧ (markEffect m s).req = s.req
      ∧ (markEffect m s).asm = s.asm ∧ (markEffect m s).store = s.store
      ∧ (markEffect m s).ret.ackedThrough = s.ret.ackedThrough ∧ (markEffect m s).del = s.del
      ∧ (markEffect m s).portH = s.portH ∧ (markEffect m s).portN = s.portN
      ∧ (markEffect m s).frameTurn = s.frameTurn ∧ (markEffect m s).sourceTurn = s.sourceTurn
      ∧ (markEffect m s).trig.map = s.trig.map ∧ (markEffect m s).trig.lines = s.trig.lines
      ∧ (markEffect m s).fwd.fqH = s.fwd.fqH ∧ (markEffect m s).fwd.fqN = s.fwd.fqN
      ∧ (markEffect m s).fwd.table = s.fwd.table ∧ (markEffect m s).fwd.defaultHits = s.fwd.defaultHits
      ∧ (markEffect m s).mgmt = s.mgmt ∧ (markEffect m s).choices = s.choices
      ∧ (markEffect m s).pending = s.pending := by
  unfold markEffect; split <;> simp

@[simp] theorem countHit_frame (i : Fin 32) (s : State) :
    (countHit i s).held = s.held ∧ (countHit i s).seq = s.seq ∧ (countHit i s).req = s.req
      ∧ (countHit i s).asm = s.asm ∧ (countHit i s).store = s.store ∧ (countHit i s).ret = s.ret
      ∧ (countHit i s).del = s.del ∧ (countHit i s).portH = s.portH ∧ (countHit i s).portN = s.portN
      ∧ (countHit i s).frameTurn = s.frameTurn ∧ (countHit i s).sourceTurn = s.sourceTurn
      ∧ (countHit i s).trig = s.trig ∧ (countHit i s).fwd.fqH = s.fwd.fqH ∧ (countHit i s).fwd.fqN = s.fwd.fqN
      ∧ (countHit i s).fwd.defaultHits = s.fwd.defaultHits ∧ (countHit i s).fwd.ctr = s.fwd.ctr
      ∧ (countHit i s).mgmt = s.mgmt ∧ (countHit i s).choices = s.choices ∧ (countHit i s).pending = s.pending := by
  simp [countHit]

@[simp] theorem filterEvent_frame (c : BitVec 8) (p : Packet) (s : State) :
    (filterEvent c p s).held = s.held ∧ (filterEvent c p s).seq.scanList = s.seq.scanList
      ∧ (filterEvent c p s).seq.mode = s.seq.mode ∧ (filterEvent c p s).seq.period = s.seq.period
      ∧ (filterEvent c p s).seq.maxOut = s.seq.maxOut
      ∧ (filterEvent c p s).ret.ackedThrough = s.ret.ackedThrough ∧ (filterEvent c p s).del = s.del
      ∧ (filterEvent c p s).portH = s.portH ∧ (filterEvent c p s).portN = s.portN
      ∧ (filterEvent c p s).frameTurn = s.frameTurn ∧ (filterEvent c p s).sourceTurn = s.sourceTurn
      ∧ (filterEvent c p s).trig.map = s.trig.map ∧ (filterEvent c p s).trig.lines = s.trig.lines
      ∧ (filterEvent c p s).fwd.fqN = s.fwd.fqN ∧ (filterEvent c p s).mgmt.items = s.mgmt.items
      ∧ (filterEvent c p s).mgmt.timeBase = s.mgmt.timeBase ∧ (filterEvent c p s).mgmt.respQ = s.mgmt.respQ
      ∧ (filterEvent c p s).pending = s.pending := by unfold filterEvent; split <;> simp

@[simp] theorem takeEvent_frame (p : Packet) (s : State) :
    (takeEvent p s).held = s.held ∧ (takeEvent p s).seq.scanList = s.seq.scanList
      ∧ (takeEvent p s).seq.mode = s.seq.mode ∧ (takeEvent p s).seq.period = s.seq.period
      ∧ (takeEvent p s).seq.maxOut = s.seq.maxOut ∧ (takeEvent p s).ret.ackedThrough = s.ret.ackedThrough
      ∧ (takeEvent p s).del = s.del ∧ (takeEvent p s).portH = s.portH ∧ (takeEvent p s).portN = s.portN
      ∧ (takeEvent p s).frameTurn = s.frameTurn ∧ (takeEvent p s).sourceTurn = s.sourceTurn
      ∧ (takeEvent p s).trig.map = s.trig.map ∧ (takeEvent p s).trig.lines = s.trig.lines
      ∧ (takeEvent p s).fwd.fqN = s.fwd.fqN ∧ (takeEvent p s).mgmt.items = s.mgmt.items
      ∧ (takeEvent p s).mgmt.timeBase = s.mgmt.timeBase ∧ (takeEvent p s).mgmt.respQ = s.mgmt.respQ
      ∧ (takeEvent p s).pending = s.pending := by
  unfold takeEvent; split <;> simp

@[simp] theorem cutH_frame (s : State) :
    (cutH s).held = s.held ∧ (cutH s).seq = s.seq ∧ (cutH s).req = s.req ∧ (cutH s).asm = s.asm
      ∧ (cutH s).store = s.store ∧ (cutH s).ret = s.ret ∧ (cutH s).del.credit = s.del.credit
      ∧ (cutH s).del.liveCursor = s.del.liveCursor ∧ (cutH s).del.session = s.del.session
      ∧ (cutH s).del.framesSent = s.del.framesSent ∧ (cutH s).portN = s.portN
      ∧ (cutH s).frameTurn = s.frameTurn ∧ (cutH s).sourceTurn = s.sourceTurn ∧ (cutH s).trig = s.trig
      ∧ (cutH s).fwd = s.fwd ∧ (cutH s).mgmt = s.mgmt ∧ (cutH s).choices = s.choices
      ∧ (cutH s).pending = s.pending := by
  simp [cutH]

@[simp] theorem loseResponses_frame (s : State) :
    (loseResponses s).held = s.held ∧ (loseResponses s).seq = s.seq ∧ (loseResponses s).req = s.req
      ∧ (loseResponses s).asm = s.asm ∧ (loseResponses s).store = s.store ∧ (loseResponses s).ret = s.ret
      ∧ (loseResponses s).del = s.del ∧ (loseResponses s).portH = s.portH ∧ (loseResponses s).portN = s.portN
      ∧ (loseResponses s).frameTurn = s.frameTurn ∧ (loseResponses s).sourceTurn = s.sourceTurn
      ∧ (loseResponses s).trig = s.trig ∧ (loseResponses s).fwd = s.fwd
      ∧ (loseResponses s).mgmt.items = s.mgmt.items ∧ (loseResponses s).mgmt.timeBase = s.mgmt.timeBase
      ∧ (loseResponses s).mgmt.noticeQ = s.mgmt.noticeQ ∧ (loseResponses s).choices = s.choices
      ∧ (loseResponses s).pending = s.pending := by
  simp [loseResponses]

@[simp] theorem sessionAndFqH_frame (s : State) :
    (sessionAndFqH s).held = s.held ∧ (sessionAndFqH s).seq = s.seq ∧ (sessionAndFqH s).req = s.req
      ∧ (sessionAndFqH s).asm = s.asm ∧ (sessionAndFqH s).store = s.store
      ∧ (sessionAndFqH s).ret.ackedThrough = s.ret.ackedThrough
      ∧ (sessionAndFqH s).ret.bookmarks = s.ret.bookmarks ∧ (sessionAndFqH s).del.credit = s.del.credit
      ∧ (sessionAndFqH s).del.liveCursor = s.del.liveCursor
      ∧ (sessionAndFqH s).del.framesSent = s.del.framesSent ∧ (sessionAndFqH s).portH = s.portH
      ∧ (sessionAndFqH s).portN = s.portN ∧ (sessionAndFqH s).frameTurn = s.frameTurn
      ∧ (sessionAndFqH s).sourceTurn = s.sourceTurn ∧ (sessionAndFqH s).trig = s.trig
      ∧ (sessionAndFqH s).fwd.fqN = s.fwd.fqN ∧ (sessionAndFqH s).fwd.table = s.fwd.table
      ∧ (sessionAndFqH s).fwd.defaultHits = s.fwd.defaultHits ∧ (sessionAndFqH s).mgmt.items = s.mgmt.items
      ∧ (sessionAndFqH s).mgmt.timeBase = s.mgmt.timeBase ∧ (sessionAndFqH s).mgmt.respQ = s.mgmt.respQ
      ∧ (sessionAndFqH s).pending = s.pending := by unfold sessionAndFqH; dsimp only; (repeat' split) <;> simp

@[simp] theorem linkDownH_frame (s : State) :
    (linkDownH s).held = s.held ∧ (linkDownH s).seq = s.seq ∧ (linkDownH s).req = s.req
      ∧ (linkDownH s).asm = s.asm ∧ (linkDownH s).store = s.store
      ∧ (linkDownH s).ret.ackedThrough = s.ret.ackedThrough ∧ (linkDownH s).ret.bookmarks = s.ret.bookmarks
      ∧ (linkDownH s).del.liveCursor = s.del.liveCursor ∧ (linkDownH s).del.framesSent = s.del.framesSent
      ∧ (linkDownH s).portN = s.portN ∧ (linkDownH s).frameTurn = s.frameTurn
      ∧ (linkDownH s).sourceTurn = s.sourceTurn ∧ (linkDownH s).trig = s.trig
      ∧ (linkDownH s).fwd.fqN = s.fwd.fqN ∧ (linkDownH s).fwd.table = s.fwd.table
      ∧ (linkDownH s).fwd.defaultHits = s.fwd.defaultHits ∧ (linkDownH s).mgmt.items = s.mgmt.items
      ∧ (linkDownH s).mgmt.timeBase = s.mgmt.timeBase ∧ (linkDownH s).pending = s.pending := by unfold linkDownH; simp

@[simp] theorem linkDownN_frame (s : State) :
    (linkDownN s).held = s.held ∧ (linkDownN s).seq.scanList = s.seq.scanList
      ∧ (linkDownN s).seq.mode = s.seq.mode ∧ (linkDownN s).seq.period = s.seq.period
      ∧ (linkDownN s).seq.maxOut = s.seq.maxOut ∧ (linkDownN s).seq.sweepNo = s.seq.sweepNo
      ∧ (linkDownN s).ret.ackedThrough = s.ret.ackedThrough ∧ (linkDownN s).ret.floor = s.ret.floor
      ∧ (linkDownN s).del = s.del ∧ (linkDownN s).portH = s.portH ∧ (linkDownN s).frameTurn = s.frameTurn
      ∧ (linkDownN s).sourceTurn = s.sourceTurn ∧ (linkDownN s).trig = s.trig
      ∧ (linkDownN s).fwd.fqH = s.fwd.fqH ∧ (linkDownN s).fwd.table = s.fwd.table
      ∧ (linkDownN s).fwd.defaultHits = s.fwd.defaultHits ∧ (linkDownN s).mgmt.items = s.mgmt.items
      ∧ (linkDownN s).mgmt.timeBase = s.mgmt.timeBase ∧ (linkDownN s).mgmt.respQ = s.mgmt.respQ
      ∧ (linkDownN s).choices = s.choices ∧ (linkDownN s).pending = s.pending := by unfold linkDownN; simp

@[simp] theorem linkUpH_frame (s : State) :
    (linkUpH s).held = s.held ∧ (linkUpH s).seq = s.seq ∧ (linkUpH s).asm = s.asm ∧ (linkUpH s).store = s.store
      ∧ (linkUpH s).ret.bookmarks = s.ret.bookmarks ∧ (linkUpH s).portN.link = s.portN.link
      ∧ (linkUpH s).portN.silence = s.portN.silence ∧ (linkUpH s).portN.keepalive = s.portN.keepalive
      ∧ (linkUpH s).portN.rx = s.portN.rx ∧ (linkUpH s).trig = s.trig ∧ (linkUpH s).fwd.table = s.fwd.table
      ∧ (linkUpH s).fwd.defaultHits = s.fwd.defaultHits ∧ (linkUpH s).mgmt.items = s.mgmt.items
      ∧ (linkUpH s).mgmt.timeBase = s.mgmt.timeBase ∧ (linkUpH s).choices = s.choices
      ∧ (linkUpH s).pending = s.pending := by unfold linkUpH; simp

@[simp] theorem linkUpN_frame (s : State) :
    (linkUpN s).held = s.held ∧ (linkUpN s).seq.scanList = s.seq.scanList ∧ (linkUpN s).seq.mode = s.seq.mode
      ∧ (linkUpN s).seq.period = s.seq.period ∧ (linkUpN s).seq.maxOut = s.seq.maxOut
      ∧ (linkUpN s).portH.link = s.portH.link ∧ (linkUpN s).portH.silence = s.portH.silence
      ∧ (linkUpN s).portH.keepalive = s.portH.keepalive ∧ (linkUpN s).portH.rx = s.portH.rx
      ∧ (linkUpN s).trig.map = s.trig.map ∧ (linkUpN s).trig.lines = s.trig.lines
      ∧ (linkUpN s).fwd.table = s.fwd.table ∧ (linkUpN s).fwd.defaultHits = s.fwd.defaultHits
      ∧ (linkUpN s).mgmt.items = s.mgmt.items ∧ (linkUpN s).mgmt.timeBase = s.mgmt.timeBase
      ∧ (linkUpN s).pending = s.pending := by unfold linkUpN; simp

@[simp] theorem withPort_frame (p : Port) (f : PortBlock → PortBlock) (s : State) :
    (withPort p f s).held = s.held ∧ (withPort p f s).seq = s.seq ∧ (withPort p f s).req = s.req
      ∧ (withPort p f s).asm = s.asm ∧ (withPort p f s).store = s.store ∧ (withPort p f s).ret = s.ret
      ∧ (withPort p f s).del = s.del ∧ (withPort p f s).frameTurn = s.frameTurn
      ∧ (withPort p f s).sourceTurn = s.sourceTurn ∧ (withPort p f s).trig = s.trig
      ∧ (withPort p f s).fwd = s.fwd ∧ (withPort p f s).mgmt = s.mgmt ∧ (withPort p f s).choices = s.choices
      ∧ (withPort p f s).pending = s.pending := by
  cases p <;> simp [withPort]

@[simp] theorem arrive_frame (p : Port) (s : State) :
    (arrive p s).held = s.held ∧ (arrive p s).seq.scanList = s.seq.scanList
      ∧ (arrive p s).seq.mode = s.seq.mode ∧ (arrive p s).seq.period = s.seq.period
      ∧ (arrive p s).seq.maxOut = s.seq.maxOut ∧ (arrive p s).trig.map = s.trig.map
      ∧ (arrive p s).trig.lines = s.trig.lines ∧ (arrive p s).fwd.table = s.fwd.table
      ∧ (arrive p s).fwd.defaultHits = s.fwd.defaultHits ∧ (arrive p s).mgmt.items = s.mgmt.items
      ∧ (arrive p s).mgmt.timeBase = s.mgmt.timeBase ∧ (arrive p s).pending = s.pending := by
  unfold arrive; dsimp only; split
  · simp
  · split <;> simp

@[simp] theorem overflow_frame (s : State) :
    (overflow s).held = s.held ∧ (overflow s).seq = s.seq ∧ (overflow s).req = s.req ∧ (overflow s).asm = s.asm
      ∧ (overflow s).store = s.store ∧ (overflow s).ret = s.ret ∧ (overflow s).del = s.del
      ∧ (overflow s).portH = s.portH ∧ (overflow s).portN = s.portN ∧ (overflow s).frameTurn = s.frameTurn
      ∧ (overflow s).sourceTurn = s.sourceTurn ∧ (overflow s).trig = s.trig ∧ (overflow s).fwd = s.fwd
      ∧ (overflow s).mgmt.items = s.mgmt.items ∧ (overflow s).mgmt.timeBase = s.mgmt.timeBase
      ∧ (overflow s).mgmt.respQ = s.mgmt.respQ ∧ (overflow s).mgmt.noticeQ = s.mgmt.noticeQ
      ∧ (overflow s).choices = s.choices ∧ (overflow s).pending = s.pending := by
  simp [overflow]

@[simp] theorem emptyStore_frame (s : State) :
    (emptyStore s).held = s.held ∧ (emptyStore s).seq = s.seq ∧ (emptyStore s).req = s.req
      ∧ (emptyStore s).asm = s.asm ∧ (emptyStore s).store.nextSeq = s.store.nextSeq
      ∧ (emptyStore s).store.poolNext = s.store.poolNext
      ∧ (emptyStore s).ret = s.ret ∧ (emptyStore s).del = s.del ∧ (emptyStore s).portH = s.portH
      ∧ (emptyStore s).portN = s.portN ∧ (emptyStore s).frameTurn = s.frameTurn
      ∧ (emptyStore s).sourceTurn = s.sourceTurn ∧ (emptyStore s).trig = s.trig ∧ (emptyStore s).fwd = s.fwd
      ∧ (emptyStore s).mgmt.items = s.mgmt.items ∧ (emptyStore s).mgmt.timeBase = s.mgmt.timeBase
      ∧ (emptyStore s).mgmt.respQ = s.mgmt.respQ ∧ (emptyStore s).choices = s.choices
      ∧ (emptyStore s).pending = s.pending := by
  unfold emptyStore; dsimp only; split <;> simp

@[simp] theorem flushPositions_frame (s : State) :
    (flushPositions s).held = s.held ∧ (flushPositions s).seq = s.seq ∧ (flushPositions s).req = s.req
      ∧ (flushPositions s).asm = s.asm ∧ (flushPositions s).store = s.store
      ∧ (flushPositions s).ret.floor = s.ret.floor ∧ (flushPositions s).del.credit = s.del.credit
      ∧ (flushPositions s).del.session = s.del.session ∧ (flushPositions s).del.framesSent = s.del.framesSent
      ∧ (flushPositions s).del.ctr = s.del.ctr ∧ (flushPositions s).portH = s.portH
      ∧ (flushPositions s).portN = s.portN ∧ (flushPositions s).frameTurn = s.frameTurn
      ∧ (flushPositions s).sourceTurn = s.sourceTurn ∧ (flushPositions s).trig = s.trig
      ∧ (flushPositions s).fwd = s.fwd ∧ (flushPositions s).mgmt = s.mgmt
      ∧ (flushPositions s).choices = s.choices ∧ (flushPositions s).pending = s.pending := by
  simp [flushPositions]

@[simp] theorem flushPart_frame (s : State) :
    (flushPart s).held = s.held ∧ (flushPart s).seq.scanList = s.seq.scanList
      ∧ (flushPart s).seq.mode = s.seq.mode ∧ (flushPart s).seq.period = s.seq.period
      ∧ (flushPart s).seq.maxOut = s.seq.maxOut ∧ (flushPart s).seq.sweepNo = s.seq.sweepNo
      ∧ (flushPart s).store.nextSeq = s.store.nextSeq
      ∧ (flushPart s).store.poolNext = s.store.poolNext ∧ (flushPart s).del.credit = s.del.credit
      ∧ (flushPart s).del.framesSent = s.del.framesSent ∧ (flushPart s).portH = s.portH
      ∧ (flushPart s).portN = s.portN ∧ (flushPart s).frameTurn = s.frameTurn
      ∧ (flushPart s).sourceTurn = s.sourceTurn ∧ (flushPart s).trig = s.trig ∧ (flushPart s).fwd = s.fwd
      ∧ (flushPart s).mgmt.items = s.mgmt.items ∧ (flushPart s).mgmt.timeBase = s.mgmt.timeBase
      ∧ (flushPart s).mgmt.respQ = s.mgmt.respQ ∧ (flushPart s).choices = s.choices
      ∧ (flushPart s).pending = s.pending := by
  unfold flushPart; simp

@[simp] theorem writeItem_frame (i : Item) (v : Word32) (s : State) :
    (writeItem i v s).held = s.held ∧ (writeItem i v s).seq.scanList = s.seq.scanList
      ∧ (writeItem i v s).seq.mode = s.seq.mode ∧ (writeItem i v s).seq.period = s.seq.period
      ∧ (writeItem i v s).seq.maxOut = s.seq.maxOut ∧ (writeItem i v s).req.retryQ = s.req.retryQ
      ∧ (writeItem i v s).ret.ackedThrough = s.ret.ackedThrough ∧ (writeItem i v s).ret.floor = s.ret.floor
      ∧ (writeItem i v s).del = s.del ∧ (writeItem i v s).portH.link = s.portH.link
      ∧ (writeItem i v s).portH.keepalive = s.portH.keepalive ∧ (writeItem i v s).portH.tx = s.portH.tx
      ∧ (writeItem i v s).portH.rx = s.portH.rx ∧ (writeItem i v s).portH.ctr = s.portH.ctr
      ∧ (writeItem i v s).portN.link = s.portN.link ∧ (writeItem i v s).portN.keepalive = s.portN.keepalive
      ∧ (writeItem i v s).portN.tx = s.portN.tx ∧ (writeItem i v s).portN.rx = s.portN.rx
      ∧ (writeItem i v s).portN.ctr = s.portN.ctr ∧ (writeItem i v s).frameTurn = s.frameTurn
      ∧ (writeItem i v s).sourceTurn = s.sourceTurn ∧ (writeItem i v s).trig.map = s.trig.map
      ∧ (writeItem i v s).trig.lines = s.trig.lines ∧ (writeItem i v s).fwd = s.fwd
      ∧ (writeItem i v s).mgmt.respQ = s.mgmt.respQ ∧ (writeItem i v s).pending = s.pending := by
  unfold writeItem cutSilence; dsimp only; (repeat' split) <;> simp

@[simp] theorem resetReference_frame (i : Fin 4) (s : State) :
    (resetReference i s).held = s.held ∧ (resetReference i s).seq = s.seq ∧ (resetReference i s).req = s.req
      ∧ (resetReference i s).asm = s.asm ∧ (resetReference i s).store = s.store
      ∧ (resetReference i s).ret = s.ret ∧ (resetReference i s).del = s.del
      ∧ (resetReference i s).portH = s.portH ∧ (resetReference i s).portN = s.portN
      ∧ (resetReference i s).frameTurn = s.frameTurn ∧ (resetReference i s).sourceTurn = s.sourceTurn
      ∧ (resetReference i s).trig.map = s.trig.map ∧ (resetReference i s).trig.ctr = s.trig.ctr
      ∧ (resetReference i s).fwd = s.fwd ∧ (resetReference i s).mgmt = s.mgmt
      ∧ (resetReference i s).choices = s.choices ∧ (resetReference i s).pending = s.pending := by
  simp [resetReference]

@[simp] theorem writeTrigEntry_frame (i : Fin 8) (e : TrigEntry) (s : State) :
    (writeTrigEntry i e s).held = s.held ∧ (writeTrigEntry i e s).seq = s.seq
      ∧ (writeTrigEntry i e s).req = s.req ∧ (writeTrigEntry i e s).asm = s.asm
      ∧ (writeTrigEntry i e s).store = s.store ∧ (writeTrigEntry i e s).ret = s.ret
      ∧ (writeTrigEntry i e s).del = s.del ∧ (writeTrigEntry i e s).portH = s.portH
      ∧ (writeTrigEntry i e s).portN = s.portN ∧ (writeTrigEntry i e s).frameTurn = s.frameTurn
      ∧ (writeTrigEntry i e s).sourceTurn = s.sourceTurn ∧ (writeTrigEntry i e s).trig.lines = s.trig.lines
      ∧ (writeTrigEntry i e s).trig.ctr = s.trig.ctr ∧ (writeTrigEntry i e s).fwd = s.fwd
      ∧ (writeTrigEntry i e s).mgmt = s.mgmt ∧ (writeTrigEntry i e s).choices = s.choices
      ∧ (writeTrigEntry i e s).pending = s.pending := by
  simp [writeTrigEntry]

@[simp] theorem tmapStore_frame (i : Fin 8) (e : TrigEntry) (s : State) :
    (tmapStore i e s).held = s.held ∧ (tmapStore i e s).seq.scanList = s.seq.scanList
      ∧ (tmapStore i e s).seq.mode = s.seq.mode ∧ (tmapStore i e s).seq.period = s.seq.period
      ∧ (tmapStore i e s).seq.maxOut = s.seq.maxOut ∧ (tmapStore i e s).req.retryQ = s.req.retryQ
      ∧ (tmapStore i e s).ret.ackedThrough = s.ret.ackedThrough ∧ (tmapStore i e s).ret.floor = s.ret.floor
      ∧ (tmapStore i e s).del = s.del ∧ (tmapStore i e s).portH = s.portH ∧ (tmapStore i e s).portN = s.portN
      ∧ (tmapStore i e s).frameTurn = s.frameTurn ∧ (tmapStore i e s).sourceTurn = s.sourceTurn
      ∧ (tmapStore i e s).fwd = s.fwd ∧ (tmapStore i e s).mgmt.items = s.mgmt.items
      ∧ (tmapStore i e s).mgmt.timeBase = s.mgmt.timeBase ∧ (tmapStore i e s).mgmt.respQ = s.mgmt.respQ
      ∧ (tmapStore i e s).pending = s.pending := by
  unfold tmapStore; dsimp only; (repeat' split) <;> simp

@[simp] theorem openSession_frame (x : Session) (s : State) :
    (openSession x s).held = s.held ∧ (openSession x s).seq = s.seq ∧ (openSession x s).req = s.req
      ∧ (openSession x s).asm = s.asm ∧ (openSession x s).store = s.store
      ∧ (openSession x s).ret.ackedThrough = s.ret.ackedThrough
      ∧ (openSession x s).ret.bookmarks = s.ret.bookmarks ∧ (openSession x s).del.credit = s.del.credit
      ∧ (openSession x s).del.liveCursor = s.del.liveCursor ∧ (openSession x s).portH = s.portH
      ∧ (openSession x s).portN = s.portN ∧ (openSession x s).frameTurn = s.frameTurn
      ∧ (openSession x s).sourceTurn = s.sourceTurn ∧ (openSession x s).trig = s.trig
      ∧ (openSession x s).fwd = s.fwd ∧ (openSession x s).mgmt = s.mgmt ∧ (openSession x s).choices = s.choices
      ∧ (openSession x s).pending = s.pending := by
  simp [openSession]

@[simp] theorem staleReply_frame (s : State) :
    (staleReply s).held = s.held ∧ (staleReply s).seq = s.seq ∧ (staleReply s).req.slots = s.req.slots
      ∧ (staleReply s).req.retryQ = s.req.retryQ ∧ (staleReply s).req.firstQ = s.req.firstQ
      ∧ (staleReply s).asm = s.asm ∧ (staleReply s).store = s.store ∧ (staleReply s).ret = s.ret
      ∧ (staleReply s).del = s.del ∧ (staleReply s).portH = s.portH ∧ (staleReply s).portN = s.portN
      ∧ (staleReply s).frameTurn = s.frameTurn ∧ (staleReply s).sourceTurn = s.sourceTurn
      ∧ (staleReply s).trig = s.trig ∧ (staleReply s).fwd = s.fwd ∧ (staleReply s).mgmt = s.mgmt
      ∧ (staleReply s).choices = s.choices ∧ (staleReply s).pending = s.pending := by
  simp [staleReply]

@[simp] theorem busyReply_frame (i : Fin 4) (e : Fin 64) (attempts : Nat) (s : State) :
    (busyReply i e attempts s).held = s.held ∧ (busyReply i e attempts s).seq.scanList = s.seq.scanList
      ∧ (busyReply i e attempts s).seq.mode = s.seq.mode ∧ (busyReply i e attempts s).seq.period = s.seq.period
      ∧ (busyReply i e attempts s).seq.maxOut = s.seq.maxOut
      ∧ (busyReply i e attempts s).ret.ackedThrough = s.ret.ackedThrough
      ∧ (busyReply i e attempts s).ret.floor = s.ret.floor ∧ (busyReply i e attempts s).del = s.del
      ∧ (busyReply i e attempts s).portH = s.portH ∧ (busyReply i e attempts s).portN = s.portN
      ∧ (busyReply i e attempts s).frameTurn = s.frameTurn
      ∧ (busyReply i e attempts s).sourceTurn = s.sourceTurn ∧ (busyReply i e attempts s).trig.map = s.trig.map
      ∧ (busyReply i e attempts s).trig.lines = s.trig.lines ∧ (busyReply i e attempts s).fwd = s.fwd
      ∧ (busyReply i e attempts s).mgmt.items = s.mgmt.items
      ∧ (busyReply i e attempts s).mgmt.timeBase = s.mgmt.timeBase
      ∧ (busyReply i e attempts s).mgmt.respQ = s.mgmt.respQ ∧ (busyReply i e attempts s).pending = s.pending := by
  unfold busyReply; dsimp only; split <;> simp

@[simp] theorem matchedReply_frame (i : Fin 4) (e : Fin 64) (attempts : Nat) (payload : List Word) (s : State) :
    (matchedReply i e attempts payload s).held = s.held
      ∧ (matchedReply i e attempts payload s).seq.scanList = s.seq.scanList
      ∧ (matchedReply i e attempts payload s).seq.mode = s.seq.mode
      ∧ (matchedReply i e attempts payload s).seq.period = s.seq.period
      ∧ (matchedReply i e attempts payload s).seq.maxOut = s.seq.maxOut
      ∧ (matchedReply i e attempts payload s).ret.ackedThrough = s.ret.ackedThrough
      ∧ (matchedReply i e attempts payload s).ret.floor = s.ret.floor
      ∧ (matchedReply i e attempts payload s).del = s.del
      ∧ (matchedReply i e attempts payload s).portH = s.portH
      ∧ (matchedReply i e attempts payload s).portN = s.portN
      ∧ (matchedReply i e attempts payload s).frameTurn = s.frameTurn
      ∧ (matchedReply i e attempts payload s).sourceTurn = s.sourceTurn
      ∧ (matchedReply i e attempts payload s).trig.map = s.trig.map
      ∧ (matchedReply i e attempts payload s).trig.lines = s.trig.lines
      ∧ (matchedReply i e attempts payload s).fwd = s.fwd
      ∧ (matchedReply i e attempts payload s).mgmt.items = s.mgmt.items
      ∧ (matchedReply i e attempts payload s).mgmt.timeBase = s.mgmt.timeBase
      ∧ (matchedReply i e attempts payload s).mgmt.respQ = s.mgmt.respQ
      ∧ (matchedReply i e attempts payload s).pending = s.pending := by
  unfold matchedReply; dsimp only; split <;> simp

@[simp] theorem takeReply_frame (tag : BitVec 8) (payload : List Word) (s : State) :
    (takeReply tag payload s).held = s.held ∧ (takeReply tag payload s).seq.scanList = s.seq.scanList
      ∧ (takeReply tag payload s).seq.mode = s.seq.mode ∧ (takeReply tag payload s).seq.period = s.seq.period
      ∧ (takeReply tag payload s).seq.maxOut = s.seq.maxOut
      ∧ (takeReply tag payload s).ret.ackedThrough = s.ret.ackedThrough
      ∧ (takeReply tag payload s).ret.floor = s.ret.floor ∧ (takeReply tag payload s).del = s.del
      ∧ (takeReply tag payload s).portH = s.portH ∧ (takeReply tag payload s).portN = s.portN
      ∧ (takeReply tag payload s).frameTurn = s.frameTurn ∧ (takeReply tag payload s).sourceTurn = s.sourceTurn
      ∧ (takeReply tag payload s).trig.map = s.trig.map ∧ (takeReply tag payload s).trig.lines = s.trig.lines
      ∧ (takeReply tag payload s).fwd = s.fwd ∧ (takeReply tag payload s).mgmt.items = s.mgmt.items
      ∧ (takeReply tag payload s).mgmt.timeBase = s.mgmt.timeBase
      ∧ (takeReply tag payload s).mgmt.respQ = s.mgmt.respQ ∧ (takeReply tag payload s).pending = s.pending := by
  unfold takeReply; (repeat' split) <;> simp

@[simp] theorem expireSlot_frame (i : Fin 4) (s : State) :
    (expireSlot i s).held = s.held ∧ (expireSlot i s).seq.scanList = s.seq.scanList
      ∧ (expireSlot i s).seq.mode = s.seq.mode ∧ (expireSlot i s).seq.period = s.seq.period
      ∧ (expireSlot i s).seq.maxOut = s.seq.maxOut ∧ (expireSlot i s).ret.ackedThrough = s.ret.ackedThrough
      ∧ (expireSlot i s).ret.floor = s.ret.floor ∧ (expireSlot i s).del = s.del
      ∧ (expireSlot i s).portH = s.portH ∧ (expireSlot i s).portN = s.portN
      ∧ (expireSlot i s).frameTurn = s.frameTurn ∧ (expireSlot i s).sourceTurn = s.sourceTurn
      ∧ (expireSlot i s).trig.map = s.trig.map ∧ (expireSlot i s).trig.lines = s.trig.lines
      ∧ (expireSlot i s).fwd = s.fwd ∧ (expireSlot i s).mgmt.items = s.mgmt.items
      ∧ (expireSlot i s).mgmt.timeBase = s.mgmt.timeBase ∧ (expireSlot i s).mgmt.respQ = s.mgmt.respQ
      ∧ (expireSlot i s).pending = s.pending := by
  unfold expireSlot; dsimp only; (repeat' split) <;> simp

@[simp] theorem expirePeriod_frame (s : State) :
    (expirePeriod s).held = s.held ∧ (expirePeriod s).seq.scanList = s.seq.scanList
      ∧ (expirePeriod s).seq.mode = s.seq.mode ∧ (expirePeriod s).seq.period = s.seq.period
      ∧ (expirePeriod s).seq.maxOut = s.seq.maxOut ∧ (expirePeriod s).req.retryQ = s.req.retryQ
      ∧ (expirePeriod s).ret.ackedThrough = s.ret.ackedThrough ∧ (expirePeriod s).ret.floor = s.ret.floor
      ∧ (expirePeriod s).del = s.del ∧ (expirePeriod s).portH = s.portH ∧ (expirePeriod s).portN = s.portN
      ∧ (expirePeriod s).frameTurn = s.frameTurn ∧ (expirePeriod s).sourceTurn = s.sourceTurn
      ∧ (expirePeriod s).trig.map = s.trig.map ∧ (expirePeriod s).trig.lines = s.trig.lines
      ∧ (expirePeriod s).fwd = s.fwd ∧ (expirePeriod s).mgmt.items = s.mgmt.items
      ∧ (expirePeriod s).mgmt.timeBase = s.mgmt.timeBase ∧ (expirePeriod s).mgmt.respQ = s.mgmt.respQ
      ∧ (expirePeriod s).pending = s.pending := by
  unfold expirePeriod; split <;> simp

@[simp] theorem countSoft_frame (p : Port) (s : State) :
    (countSoft p s).held = s.held ∧ (countSoft p s).seq = s.seq ∧ (countSoft p s).req = s.req
      ∧ (countSoft p s).asm = s.asm ∧ (countSoft p s).store = s.store ∧ (countSoft p s).ret = s.ret
      ∧ (countSoft p s).del = s.del ∧ (countSoft p s).portH = s.portH ∧ (countSoft p s).portN = s.portN
      ∧ (countSoft p s).frameTurn = s.frameTurn ∧ (countSoft p s).sourceTurn = s.sourceTurn
      ∧ (countSoft p s).trig.map = s.trig.map ∧ (countSoft p s).trig.lines = s.trig.lines
      ∧ (countSoft p s).fwd = s.fwd ∧ (countSoft p s).mgmt = s.mgmt ∧ (countSoft p s).choices = s.choices
      ∧ (countSoft p s).pending = s.pending := by
  cases p <;> simp [countSoft]

@[simp] theorem setLevel_frame (i : Fin 4) (l : Level) (s : State) :
    (setLevel i l s).held = s.held ∧ (setLevel i l s).seq = s.seq ∧ (setLevel i l s).req = s.req
      ∧ (setLevel i l s).asm = s.asm ∧ (setLevel i l s).store = s.store ∧ (setLevel i l s).ret = s.ret
      ∧ (setLevel i l s).del = s.del ∧ (setLevel i l s).portH = s.portH ∧ (setLevel i l s).portN = s.portN
      ∧ (setLevel i l s).frameTurn = s.frameTurn ∧ (setLevel i l s).sourceTurn = s.sourceTurn
      ∧ (setLevel i l s).trig.map = s.trig.map ∧ (setLevel i l s).trig.ctr = s.trig.ctr
      ∧ (setLevel i l s).fwd = s.fwd ∧ (setLevel i l s).mgmt = s.mgmt ∧ (setLevel i l s).choices = s.choices
      ∧ (setLevel i l s).pending = s.pending := by
  simp [setLevel]

@[simp] theorem gateOffer_frame (i : Fin 4) (s : State) :
    (gateOffer i s).held = s.held ∧ (gateOffer i s).seq.scanList = s.seq.scanList
      ∧ (gateOffer i s).seq.mode = s.seq.mode ∧ (gateOffer i s).seq.period = s.seq.period
      ∧ (gateOffer i s).seq.maxOut = s.seq.maxOut ∧ (gateOffer i s).req.retryQ = s.req.retryQ
      ∧ (gateOffer i s).ret.ackedThrough = s.ret.ackedThrough ∧ (gateOffer i s).ret.floor = s.ret.floor
      ∧ (gateOffer i s).del = s.del ∧ (gateOffer i s).portH = s.portH ∧ (gateOffer i s).portN = s.portN
      ∧ (gateOffer i s).frameTurn = s.frameTurn ∧ (gateOffer i s).sourceTurn = s.sourceTurn
      ∧ (gateOffer i s).trig.map = s.trig.map ∧ (gateOffer i s).trig.lines = s.trig.lines
      ∧ (gateOffer i s).fwd = s.fwd ∧ (gateOffer i s).mgmt.items = s.mgmt.items
      ∧ (gateOffer i s).mgmt.timeBase = s.mgmt.timeBase ∧ (gateOffer i s).mgmt.respQ = s.mgmt.respQ
      ∧ (gateOffer i s).pending = s.pending := by
  unfold gateOffer; split <;> simp

@[simp] theorem lineEdge_frame (i : Fin 4) (l : Level) (s : State) :
    (lineEdge i l s).held = s.held ∧ (lineEdge i l s).seq.scanList = s.seq.scanList
      ∧ (lineEdge i l s).seq.mode = s.seq.mode ∧ (lineEdge i l s).seq.period = s.seq.period
      ∧ (lineEdge i l s).seq.maxOut = s.seq.maxOut ∧ (lineEdge i l s).ret.ackedThrough = s.ret.ackedThrough
      ∧ (lineEdge i l s).del = s.del ∧ (lineEdge i l s).portH = s.portH ∧ (lineEdge i l s).portN = s.portN
      ∧ (lineEdge i l s).frameTurn = s.frameTurn ∧ (lineEdge i l s).sourceTurn = s.sourceTurn
      ∧ (lineEdge i l s).trig.map = s.trig.map ∧ (lineEdge i l s).trig.lines = s.trig.lines
      ∧ (lineEdge i l s).fwd = s.fwd ∧ (lineEdge i l s).mgmt.items = s.mgmt.items
      ∧ (lineEdge i l s).mgmt.timeBase = s.mgmt.timeBase ∧ (lineEdge i l s).mgmt.respQ = s.mgmt.respQ
      ∧ (lineEdge i l s).pending = s.pending := by
  unfold lineEdge; split <;> simp

@[simp] theorem changeLevel_frame (i : Fin 4) (l : Level) (c : ChangeTiming) (s : State) :
    (changeLevel i l c s).held = s.held ∧ (changeLevel i l c s).seq.scanList = s.seq.scanList
      ∧ (changeLevel i l c s).seq.mode = s.seq.mode ∧ (changeLevel i l c s).seq.period = s.seq.period
      ∧ (changeLevel i l c s).seq.maxOut = s.seq.maxOut
      ∧ (changeLevel i l c s).ret.ackedThrough = s.ret.ackedThrough ∧ (changeLevel i l c s).del = s.del
      ∧ (changeLevel i l c s).portH = s.portH ∧ (changeLevel i l c s).portN = s.portN
      ∧ (changeLevel i l c s).frameTurn = s.frameTurn ∧ (changeLevel i l c s).sourceTurn = s.sourceTurn
      ∧ (changeLevel i l c s).trig.map = s.trig.map ∧ (changeLevel i l c s).fwd = s.fwd
      ∧ (changeLevel i l c s).mgmt.items = s.mgmt.items ∧ (changeLevel i l c s).mgmt.timeBase = s.mgmt.timeBase
      ∧ (changeLevel i l c s).mgmt.respQ = s.mgmt.respQ ∧ (changeLevel i l c s).pending = s.pending := by
  unfold changeLevel; (repeat' split) <;> simp

@[simp] theorem releaseOne_frame (s : State) :
    (releaseOne s).held = s.held ∧ (releaseOne s).seq.scanList = s.seq.scanList
      ∧ (releaseOne s).seq.mode = s.seq.mode ∧ (releaseOne s).seq.period = s.seq.period
      ∧ (releaseOne s).seq.maxOut = s.seq.maxOut ∧ (releaseOne s).req.retryQ = s.req.retryQ
      ∧ (releaseOne s).ret.ackedThrough = s.ret.ackedThrough ∧ (releaseOne s).del = s.del
      ∧ (releaseOne s).portH = s.portH ∧ (releaseOne s).portN = s.portN
      ∧ (releaseOne s).frameTurn = s.frameTurn ∧ (releaseOne s).sourceTurn = s.sourceTurn
      ∧ (releaseOne s).trig.map = s.trig.map ∧ (releaseOne s).trig.lines = s.trig.lines
      ∧ (releaseOne s).fwd = s.fwd ∧ (releaseOne s).mgmt.items = s.mgmt.items
      ∧ (releaseOne s).mgmt.timeBase = s.mgmt.timeBase ∧ (releaseOne s).mgmt.respQ = s.mgmt.respQ
      ∧ (releaseOne s).pending = s.pending := by
  unfold releaseOne; dsimp only; split <;> simp

end Sys2Proof.Machine
end

