-- ==== Sys2Proof/Laws/Slots.lean ====
section
/-! SUPPORT. The entries of the frame slots and of the request slots: where a result takes its place in the frame
(R49), and how a change of one request slot changes the entries being carried out (R27, R28). -/

namespace Sys2Proof.Machine

/-! ### Frame slots -/

/-- A placed frame slot joins the others, and no other slot changes. -/
theorem placeSlot_perm (x : FrameSlot) (xs : List FrameSlot) : (placeSlot x xs).Perm (x :: xs) := by
  induction xs with
  | nil => exact .refl _
  | cons y ys ih =>
    unfold placeSlot
    split
    · exact .refl _
    · exact (ih.cons y).trans (.swap ..)

theorem slotEntries_placeSlot (x : FrameSlot) (xs : List FrameSlot) :
    (slotEntries (placeSlot x xs)).Perm (x.entry :: slotEntries xs) := (placeSlot_perm x xs).map _

/-- A slot of a new entry keeps the slots in ascending entry order. -/
theorem placeSlot_ascending {x : FrameSlot} {xs : List FrameSlot} (h : (slotEntries xs).Pairwise (· < ·))
    (hn : x.entry ∉ slotEntries xs) : (slotEntries (placeSlot x xs)).Pairwise (· < ·) := by
  induction xs with
  | nil => simp [placeSlot, slotEntries]
  | cons y ys ih =>
    simp only [slotEntries, List.map_cons, List.pairwise_cons, List.mem_cons, not_or] at h hn
    unfold placeSlot
    split <;> rename_i hlt <;> simp only [slotEntries, List.map_cons, List.pairwise_cons]
    · refine ⟨fun b hb => ?_, h⟩
      rcases List.mem_cons.mp hb with rfl | hb
      · exact hlt
      · exact lt_trans hlt (h.1 b hb)
    · refine ⟨fun b hb => ?_, ih h.2 hn.2⟩
      rcases List.mem_cons.mp ((slotEntries_placeSlot x ys).mem_iff.mp hb) with rfl | hb
      · exact lt_of_le_of_ne (not_lt.mp hlt) (Ne.symm hn.1)
      · exact h.1 b hb

/-- The included entries of a sweep stand in ascending order (R5). -/
theorem includedEntries_ascending (s : State) (n : Word32) : (includedEntries s n).Pairwise (· < ·) :=
  (List.pairwise_lt_finRange 64).filter _

/-! ### Request slots -/

/-- The entries of the four request slots, one by one. -/
theorem busyEntries_eq (r : RequestTable) :
    busyEntries r = (slotEntry r.slots[0]).toList ++ (slotEntry r.slots[1]).toList ++ (slotEntry r.slots[2]).toList
      ++ (slotEntry r.slots[3]).toList := by
  unfold busyEntries
  generalize r.slots = v
  obtain ⟨⟨l⟩, hv⟩ := v
  match l, hv with
  | [a, b, c, d], _ =>
    show List.filterMap slotEntry [a, b, c, d] = (slotEntry a).toList ++ (slotEntry b).toList
      ++ (slotEntry c).toList ++ (slotEntry d).toList
    simp only [List.filterMap_cons, List.filterMap_nil]
    cases slotEntry a <;> cases slotEntry b <;> cases slotEntry c <;> cases slotEntry d <;> rfl

/-- One slot changes: its old entry goes and its new one comes, whatever becomes of the queues and the counters. -/
theorem busyEntries_setAt (r : RequestTable) (i : Fin 4) (x : Slot) (q1 q2 : List (Fin 4)) (c : ReqCounters) :
    (busyEntries { slots := setAt r.slots i x, retryQ := q1, firstQ := q2, ctr := c }
        ++ (slotEntry r.slots[i]).toList).Perm (busyEntries r ++ (slotEntry x).toList) := by
  rw [busyEntries_eq, busyEntries_eq, List.perm_iff_count]
  intro a
  simp only [setAt_get, List.count_append]
  fin_cases i <;> simp <;> omega

/-- A busy slot's entry is one of those being carried out. -/
theorem slotEntry_mem {r : RequestTable} {i : Fin 4} {e : Fin 64} (h : slotEntry r.slots[i] = some e) :
    e ∈ busyEntries r := by
  rw [busyEntries_eq]
  fin_cases i <;> simp at h <;> simp [h]

/-- As many entries are being carried out as slots are busy. -/
theorem busyEntries_length (r : RequestTable) : (busyEntries r).length = busyCount r := by
  unfold busyEntries busyCount
  rw [List.length_filterMap_eq_countP]
  congr 1
  funext x
  unfold slotEntry slotFree
  cases x.use <;> rfl

end Sys2Proof.Machine
end

