-- ==== Sys2Proof/Laws/Steps.lean ====
section
/-! SUPPORT. What a step can do, said once: `Kept P` lists every operation a command is made of, and a property that
each of them keeps is kept by every command and every step. -/

namespace Sys2Proof.Machine

/-! ### Running -/

theorem whenRunning_running {f : State → State} {s : State} (h : s.held = none) : whenRunning f s = .next (f s) := by
  unfold whenRunning; rw [h]

theorem whenRunning_held {f : State → State} {s : State} (h : s.held.isSome) : whenRunning f s = .next s := by
  unfold whenRunning; cases hs : s.held <;> simp_all

theorem whenRunning_next {f : State → State} {s t : State} (h : whenRunning f s = .next t) :
    t = s ∨ s.held = none ∧ t = f s := by
  unfold whenRunning at h
  split at h
  · exact .inr ⟨by assumption, by cases h; rfl⟩
  · exact .inl (by cases h; rfl)

/-- Every command but the two that begin and leave hardware reset runs only outside it. -/
theorem exec_eq_whenRunning (c : Instr) (h1 : ∀ k, c ≠ .hardwareReset k) (h2 : c ≠ .leaveHardwareReset) :
    ∃ f : State → State, ∀ s, exec c s = whenRunning f s := by
  cases c
  case hardwareReset k => exact absurd rfl (h1 k)
  case leaveHardwareReset => exact absurd rfl h2
  all_goals exact ⟨_, fun _ => rfl⟩

theorem receive_running {p : Port} {act : State → State} {s : State} (h : s.held = none) :
    receive p act s = .next (pump (act (arrive p s))) := whenRunning_running h

/-! ### Answers to commands -/

/-- What a GCMD's answer leaves is `answered`. -/
theorem respond_eq_answered (hdr : Header) (code : Nat) (st : Status) (r : List Word) (u : State) :
    respond hdr.tag (natWord code) { status := st, results := r, state := u } = answered hdr code st r u := by
  cases st <;> simp [respond, answered, countCommand, natWord]

theorem pumpH_respQ_length (s : State) : (pumpH s).mgmt.respQ.length ≤ s.mgmt.respQ.length := by
  unfold pumpH takeH; (repeat' split) <;> simp_all

theorem pump_respQ_length (s : State) : (pump s).mgmt.respQ.length ≤ s.mgmt.respQ.length := by
  simpa [pump] using pumpH_respQ_length s

/-- An arrival only takes from the Response Queue. -/
theorem arrive_respQ_length (p : Port) (s : State) : (arrive p s).mgmt.respQ.length ≤ s.mgmt.respQ.length := by
  unfold arrive; dsimp only; split
  · simp
  · cases p
    · exact Nat.le_trans (pump_respQ_length _) (by simp)
    · exact Nat.le_trans (pump_respQ_length _) (by simp)

/-- After an arrival the link of its port is UP. -/
theorem arrive_link (p : Port) (s : State) : (portOf p (arrive p s)).link = .up := by
  unfold arrive; dsimp only; split
  · cases p <;> simp_all
  · cases p <;> simp [linkUpH, linkUpN]

theorem arrive_hasRoom {s : State} (h : s.mgmt.respQ.length < 4) (p : Port) : hasRoom (arrive p s) = true :=
  decide_eq_true (Nat.lt_of_le_of_lt (arrive_respQ_length p s) h)

/-- A command that can be carried out is answered with what its body gives. -/
theorem takeCommand_answered {hdr : Header} {code : Nat} {body : State → Answer} {s u : State} {st : Status}
    {r : List Word} (h : TakesCommands s)
    (hb : body (arrive .h s) = { status := st, results := r, state := u }) :
    takeCommand hdr code body s = .next (pump (answered hdr code st r u)) := by
  unfold takeCommand
  rw [receive_running h.1]
  simp [manage, arrive_hasRoom h.2, hb, respond_eq_answered]

/-! ### Properties that every operation keeps -/

/-- The operations that commands are made of, with what holds where each is used. -/
structure Kept (P : State → Prop) : Prop where
  pending   : ∀ q s, P s → P { s with pending := q }
  reset     : ∀ k s, P s → P (enterReset k s)
  leave     : ∀ s, P s → P (leaveReset s)
  command   : ∀ s, P s → s.portH.link = .up → P (resetCommand s)
  arrive    : ∀ p s, P s → P (arrive p s)
  pump      : ∀ s, P s → P (pump s)
  keepH     : ∀ s, P s → P (keepaliveH s)
  keepN     : ∀ s, P s → P (keepaliveN s)
  tick      : ∀ s, P s → P (tick s)
  damaged   : ∀ p r s, P s → P (withPort p (countDamaged r) s)
  idle      : ∀ p s, P s → P (withPort p countIdle s)
  unknown   : ∀ p s, P s → P (withPort p countUnknown s)
  misrouted : ∀ p s, P s → P (withPort p countMisrouted s)
  badTrig   : ∀ p s, P s → P (withPort p countBadTrigger s)
  overflow  : ∀ s, P s → P (overflow s)
  respond   : ∀ tag code st r s, P s → hasRoom s = true → s.portH.link = .up →
                P (respond tag code { status := st, results := r, state := s })
  reply     : ∀ tag ps s, P s → s.portN.link = .up → P (takeReply tag ps s)
  slot      : ∀ i s, P s → P (expireSlot i s)
  period    : ∀ s, P s → P (expirePeriod s)
  downH     : ∀ s, P s → silenceOut s.portH = true → P (linkDownH s)
  downN     : ∀ s, P s → silenceOut s.portN = true → P (linkDownN s)
  sent      : ∀ p s, P s → P (withPort p endPacket s)
  toN       : ∀ p s, P s → P (offerFqN p s)
  toH       : ∀ p s, P s → P (offerFqH p s)
  event     : ∀ p s, P s → P (takeEvent p s)
  soft      : ∀ p s, P s → P (countSoft p s)
  fire      : ∀ i s, P s → P (fireSource i s)
  level     : ∀ i l c s, P s → P (changeLevel i l c s)
  release   : ∀ s, P s → P (releaseOne s)
  item      : ∀ i v s, P s → itemCheck i v s = .ok → P (writeItem i v s)
  scan      : ∀ first n ws es s, P s → s.seq.st = .idle → scanRecords n ws = some es →
                P { s with seq.scanList := writeRun first es s.seq.scanList }
  events    : ∀ i en nd cd mk vd tr mr e s, P s →
                eventEntryOf en nd cd mk vd tr mr s.fwd.table[i].hits = some e →
                P { s with fwd.table := setAt s.fwd.table i e }
  tmap      : ∀ src d a b i e s, P s → trigEntryOf src d a b = some (i, e) → P (tmapStore i e s)
  arm       : ∀ now s, P s → s.seq.st = .idle → rangeArmable s = true → P (armWith now s)
  stop      : ∀ s, P s → P (stopSequencer s)
  halt      : ∀ s, P s → P (haltSequencer .halt s)
  sweepNow  : ∀ s, P s → P (deliverStart .command s).2
  credit    : ∀ n s, P s → n ≤ Config.maxCredit → s.portH.link = .up → P { s with del.credit := n }
  ack       : ∀ n s, P s → ackStatus n s = .ok → P (refloor { s with ret.ackedThrough := n })
  markSet   : ∀ b k n x s, P s → markTarget k n s = some x → P (putBookmark b (.set x) s)
  markClear : ∀ b s, P s → P (putBookmark b .free s)
  replay    : ∀ k w n x count s, P s → s.portH.link = .up → s.del.session = none → s.store.frames ≠ [] →
                replayStart k w n s = some x → P (openSession (openedSession x count s) s)
  abort     : ∀ s, P s → P (endSession .abort s)
  flush     : ∀ s, P s → P (flushPart s)
  clear     : ∀ g s, P s → P (clearGroup g s)

/-- How a command ends, from a state `s`, with operations that keep `P`: with the transmitters taking what waits,
unless it is a tick, a damaged packet, an expiry of a keepalive count or hardware reset. -/
inductive Ends (P : State → Prop) (s : State) : State → Prop where
  | same : Ends P s s
  | pumped (u : State) (h : P u) : Ends P s (pump u)
  | keptH (u : State) (h : P u) : Ends P s (keepaliveH (pump u))
  | keptN (u : State) (h : P u) : Ends P s (keepaliveN (pump u))
  | ticked : Ends P s (tick s)
  | damaged (p : Port) (r : RxRun) : Ends P s (withPort p (countDamaged r) s)
  | reset (c : ResetCause) : Ends P s (enterReset c s)
  | left : Ends P s (leaveReset s)

namespace Kept

variable {P : State → Prop}

theorem endsOnlyIf {b : Bool} {f : State → State} {s : State} (hf : b = true → Ends P s (f s)) :
    Ends P s (Machine.onlyIf b f s) := by
  unfold Machine.onlyIf; split
  · exact hf ‹_›
  · exact .same

theorem onlyIf {b : Bool} {f : State → State} {s : State} (hs : P s) (hf : b = true → P (f s)) :
    P (Machine.onlyIf b f s) := by
  unfold Machine.onlyIf; split
  · exact hf ‹_›
  · exact hs

theorem ran {f : State → State} {s t : State} (h : whenRunning f s = .next t) (hf : Ends P s (f s)) : Ends P s t := by
  rcases whenRunning_next h with rfl | ⟨_, rfl⟩
  · exact .same
  · exact hf

theorem received {p : Port} {act : State → State} {s t : State} (h : receive p act s = .next t)
    (hf : P (act (Machine.arrive p s))) : Ends P s t := by
  unfold receive at h; exact ran h (.pumped _ hf)

theorem happened {f : State → State} {s t : State} (h : happen f s = .next t) (hf : P (f s)) : Ends P s t := by
  unfold happen at h; exact ran h (.pumped _ hf)

/-- A command's body leaves the Response Queue and the H link alone, and its state has the property. -/
def BodyKept (P : State → Prop) (body : State → Answer) : Prop :=
  ∀ s, P s → s.portH.link = .up → hasRoom s = true →
    P (body s).state ∧ (body s).state.mgmt.respQ = s.mgmt.respQ ∧ (body s).state.portH.link = s.portH.link

theorem take (k : Kept P) {hdr : Header} {code : Nat} {body : State → Answer} {s t : State}
    (h : takeCommand hdr code body s = .next t) (hs : P s) (hb : BodyKept P body) : Ends P s t := by
  unfold takeCommand at h
  refine received h ?_
  have ha := k.arrive .h s hs
  have hu := arrive_link .h s
  unfold Machine.manage
  split
  · obtain ⟨b1, b2, b3⟩ := hb _ ha hu ‹_›
    refine k.respond hdr.tag _ _ _ _ b1 ?_ (b3.trans hu)
    simpa [hasRoom, b2] using ‹hasRoom _ = true›
  · exact k.overflow _ ha

theorem body_self {a : State → Answer} (h : ∀ s, (a s).state = s) : BodyKept P a := fun s hs _ _ => by
  simp [h, hs]

theorem body_noParams {ps : List Word} {b : State → Answer} (h : BodyKept P b) : BodyKept P (noParams ps b) := by
  intro s hs hu hr
  unfold noParams; split
  · exact h s hs hu hr
  · exact ⟨hs, rfl, rfl⟩

theorem body_oneParam {ps : List Word} {b : Word → State → Answer} (h : ∀ w, BodyKept P (b w)) :
    BodyKept P (oneParam ps b) := by
  intro s hs hu hr
  unfold oneParam; split
  · exact h _ s hs hu hr
  · exact ⟨hs, rfl, rfl⟩

theorem body_twoParams {ps : List Word} {b : Word → Word → State → Answer} (h : ∀ v w, BodyKept P (b v w)) :
    BodyKept P (twoParams ps b) := by
  intro s hs hu hr
  unfold twoParams; split
  · exact h _ _ s hs hu hr
  · exact ⟨hs, rfl, rfl⟩

theorem body_getItem (w : Word) : BodyKept P (getItemBody w) :=
  body_self fun s => by unfold getItemBody; split <;> rfl

theorem body_setItem (k : Kept P) (ps : List Word) : BodyKept P (setItemParams ps) := by
  intro s hs hu _
  unfold setItemParams setItemBody; (repeat' split) <;> try exact ⟨hs, rfl, rfl⟩
  exact ⟨k.item _ _ s hs ‹_›, by simp [answerOk], by simp [answerOk]⟩

theorem body_scanWrite (k : Kept P) (ps : List Word) : BodyKept P (scanWriteParams ps) := by
  intro s hs hu _
  unfold scanWriteParams scanWriteBody; (repeat' split) <;> try exact ⟨hs, rfl, rfl⟩
  exact ⟨k.scan _ _ _ _ s hs (by simp_all) ‹_›, rfl, rfl⟩

theorem body_scanRead (v w : Word) : BodyKept P (scanReadBody v w) :=
  body_self fun s => by unfold scanReadBody; split <;> rfl

theorem body_eventWrite (k : Kept P) (ps : List Word) : BodyKept P (eventWriteParams ps) := by
  intro s hs hu _
  unfold eventWriteParams; (repeat' split) <;> try exact ⟨hs, rfl, rfl⟩
  rename_i he
  exact ⟨k.events ⟨_, ‹_›⟩ _ _ _ _ _ _ _ _ s hs he, rfl, rfl⟩

theorem body_eventRead (v w : Word) : BodyKept P (eventReadBody v w) :=
  body_self fun s => by unfold eventReadBody; split <;> rfl

theorem body_tmapWrite (k : Kept P) (ps : List Word) : BodyKept P (tmapWriteParams ps) := by
  intro s hs hu _
  unfold tmapWriteParams; (repeat' split) <;> try exact ⟨hs, rfl, rfl⟩
  exact ⟨k.tmap _ _ _ _ _ _ s hs ‹_›, by simp [answerOk], by simp [answerOk]⟩

theorem body_arm (k : Kept P) (w : Word) : BodyKept P (armBody w) := by
  intro s hs hu _
  unfold armBody; (repeat' split) <;> try exact ⟨hs, rfl, rfl⟩
  exact ⟨k.arm _ s hs (by simp_all) (by simp_all), by simp [answerOk], by simp [answerOk]⟩

theorem body_sweepNow (k : Kept P) : BodyKept P sweepNowBody := by
  intro s hs hu _
  unfold sweepNowBody; split
  · exact ⟨hs, rfl, rfl⟩
  · exact ⟨k.sweepNow s hs, by simp [answerOk], by simp [answerOk]⟩

theorem body_credit (k : Kept P) (w : Word) : BodyKept P (creditBody w) := by
  intro s hs hu _
  unfold creditBody; split
  · exact ⟨k.credit _ s hs (Nat.min_le_right _ _) hu, rfl, rfl⟩
  · exact ⟨hs, rfl, rfl⟩

theorem body_ack (k : Kept P) (v w : Word) : BodyKept P (ackBody v w) := by
  intro s hs hu _
  unfold ackBody; split
  · exact ⟨k.ack _ s hs ‹_›, rfl, rfl⟩
  · exact ⟨hs, rfl, rfl⟩

theorem body_markSet (k : Kept P) (ps : List Word) : BodyKept P (markSetParams ps) := by
  intro s hs hu _
  unfold markSetParams markSetBody; (repeat' split) <;> try exact ⟨hs, rfl, rfl⟩
  exact ⟨k.markSet _ _ _ _ s hs ‹_›, rfl, rfl⟩

theorem body_markClear (k : Kept P) (w : Word) : BodyKept P (markClearBody w) := by
  intro s hs hu _
  unfold markClearBody; split
  · exact ⟨hs, rfl, rfl⟩
  · exact ⟨k.markClear _ s hs, rfl, rfl⟩

theorem body_replay (k : Kept P) (ps : List Word) : BodyKept P (replayParams ps) := by
  intro s hs hu _
  unfold replayParams replayBody; (repeat' split) <;> try exact ⟨hs, rfl, rfl⟩
  exact ⟨k.replay _ _ _ _ _ s hs hu ‹_› ‹_› ‹_›, rfl, rfl⟩

theorem body_abort (k : Kept P) : BodyKept P replayAbortBody := by
  intro s hs hu _
  unfold replayAbortBody; split
  · exact ⟨hs, rfl, rfl⟩
  · exact ⟨k.abort s hs, by simp [answerOk], by simp [answerOk]⟩

theorem foldl_clear (k : Kept P) (gs : List Group) : ∀ s, P s →
    P (gs.foldl (fun t g => clearGroup g t) s)
      ∧ (gs.foldl (fun t g => clearGroup g t) s).mgmt.respQ = s.mgmt.respQ
      ∧ (gs.foldl (fun t g => clearGroup g t) s).portH.link = s.portH.link := by
  induction gs with
  | nil => exact fun s hs => ⟨hs, rfl, rfl⟩
  | cons g gs ih =>
    intro s hs
    obtain ⟨h1, h2, h3⟩ := ih _ (k.clear g s hs)
    exact ⟨h1, h2.trans (by cases g <;> rfl), h3.trans (by cases g <;> rfl)⟩

theorem body_clear (k : Kept P) (w : Word) : BodyKept P (countersClearBody w) := by
  intro s hs hu _
  unfold countersClearBody; split
  · exact ⟨hs, rfl, rfl⟩
  · exact foldl_clear k _ s hs

theorem body_countersRead (w : Word) : BodyKept P (countersReadBody w) :=
  body_self fun s => by unfold countersReadBody; split <;> rfl

/-- How a command made of operations that keep `P` ends. -/
theorem ends (k : Kept P) {c : Instr} {s t : State} (h : Machine.exec c s = .next t) (hs : P s) : Ends P s t := by
  have ar := fun p => k.arrive p s hs
  cases c
  case hardwareReset c => cases h; exact .reset c
  case leaveHardwareReset => cases h; split; exacts [.left, .same]
  case identify => exact k.take h hs (body_noParams (body_self fun _ => rfl))
  case getItem => exact k.take h hs (body_oneParam body_getItem)
  case setItem => exact k.take h hs (body_setItem k _)
  case scanWrite => exact k.take h hs (body_scanWrite k _)
  case scanRead => exact k.take h hs (body_twoParams body_scanRead)
  case eventWrite => exact k.take h hs (body_eventWrite k _)
  case eventRead => exact k.take h hs (body_twoParams body_eventRead)
  case tmapWrite => exact k.take h hs (body_tmapWrite k _)
  case tmapRead => exact k.take h hs (body_noParams (body_self fun _ => rfl))
  case arm => exact k.take h hs (body_oneParam (body_arm k))
  case stop =>
    exact k.take h hs (body_noParams fun u hu _ _ => ⟨k.stop u hu, by simp [stopBody, answerOk], by simp [stopBody, answerOk]⟩)
  case halt =>
    exact k.take h hs (body_noParams fun u hu _ _ => ⟨k.halt u hu, by simp [haltBody, answerOk], by simp [haltBody, answerOk]⟩)
  case sweepNow => exact k.take h hs (body_noParams (body_sweepNow k))
  case credit => exact k.take h hs (body_oneParam (body_credit k))
  case ack => exact k.take h hs (body_twoParams (body_ack k))
  case markSet => exact k.take h hs (body_markSet k _)
  case markClear => exact k.take h hs (body_oneParam (body_markClear k))
  case markRead => exact k.take h hs (body_noParams (body_self fun _ => rfl))
  case replay => exact k.take h hs (body_replay k _)
  case replayAbort => exact k.take h hs (body_noParams (body_abort k))
  case storeStatus => exact k.take h hs (body_noParams (body_self fun _ => rfl))
  case seqStatus => exact k.take h hs (body_noParams (body_self fun _ => rfl))
  case flush =>
    exact k.take h hs (body_noParams fun u hu _ _ => ⟨k.flush u hu, by simp [flushBody, answerOk], by simp [flushBody, answerOk]⟩)
  case countersRead => exact k.take h hs (body_oneParam body_countersRead)
  case countersClear => exact k.take h hs (body_oneParam (body_clear k))
  case reset hdr ps =>
    refine received h ?_
    unfold manageReset; split
    · split
      · exact k.command _ (ar _) (arrive_link .h s)
      · exact k.overflow _ (ar _)
    · unfold manage; split
      · exact k.respond _ _ _ _ _ (ar _) ‹_› (arrive_link .h s)
      · exact k.overflow _ (ar _)
  case unknownCommand hdr ps =>
    refine ran h (endsOnlyIf fun _ => .pumped _ ?_)
    unfold manage; split
    · exact k.respond _ _ _ _ _ (ar _) ‹_› (arrive_link .h s)
    · exact k.overflow _ (ar _)
  case commandOverflow =>
    refine ran h ?_
    unfold overflowArrival; dsimp only; split
    · exact .same
    · exact .pumped _ (k.overflow _ (ar _))
  case packetDamaged => exact ran h (endsOnlyIf fun _ => .damaged _ _)
  case idleReceived => exact received h (k.idle _ _ (ar _))
  case unknownKind => exact received h (k.unknown _ _ (ar _))
  case packetMisrouted => exact ran h (endsOnlyIf fun _ => .pumped _ (k.misrouted _ _ (ar _)))
  case badTrigger => exact ran h (endsOnlyIf fun _ => .pumped _ (k.badTrig _ _ (ar _)))
  case srepReceived => exact received h (k.reply _ _ _ (ar _) (arrive_link .n s))
  case slotTimerExpiry => exact happened h (k.slot _ _ hs)
  case periodTimerExpiry => exact happened h (k.period _ hs)
  case hSilenceExpiry => exact happened h (onlyIf hs (k.downH _ hs))
  case nSilenceExpiry => exact happened h (onlyIf hs (k.downN _ hs))
  case hTransmissionEnd => exact happened h (onlyIf hs fun _ => k.sent .h _ hs)
  case nTransmissionEnd => exact happened h (onlyIf hs fun _ => k.sent .n _ hs)
  case hKeepaliveExpiry =>
    simp only [Machine.exec, execHKeepaliveExpiry] at h; exact ran h (.keptH _ hs)
  case nKeepaliveExpiry =>
    simp only [Machine.exec, execNKeepaliveExpiry] at h; exact ran h (.keptN _ hs)
  case forwardToNodes => exact ran h (endsOnlyIf fun _ => .pumped _ (k.toN _ _ (ar _)))
  case forwardToHead => exact received h (k.toH _ _ (ar _))
  case nevtReceived => exact received h (k.event _ _ (ar _))
  case trigReceived port hdr x =>
    change receive port (fun t => fireSource (softIndex x) (countSoft port t)) s = _ at h
    exact received h (k.fire _ _ (k.soft _ _ (ar _)))
  case seenLevelChange => exact happened h (k.level _ _ _ _ hs)
  case release => exact happened h (k.release _ hs)
  case timeBaseTick => exact ran h .ticked

/-- A command keeps what each of its operations keeps. -/
theorem exec (k : Kept P) {c : Instr} {s t : State} (h : Machine.exec c s = .next t) (hs : P s) : P t := by
  cases k.ends h hs with
  | same => exact hs
  | pumped u hu => exact k.pump u hu
  | keptH u hu => exact k.keepH _ (k.pump u hu)
  | keptN u hu => exact k.keepN _ (k.pump u hu)
  | ticked => exact k.tick s hs
  | damaged p r => exact k.damaged p r s hs
  | reset c => exact k.reset c s hs
  | left => exact k.leave s hs

/-- A step keeps what each of its operations keeps. -/
theorem step (k : Kept P) {s t : State} (h : Machine.step s = .next t) (hs : P s) : P t := by
  unfold Machine.step at h; split at h
  · cases h; exact hs
  · exact k.exec h (k.pending _ s hs)

end Kept

end Sys2Proof.Machine
end

