-- ==== Sys2Proof/Tests/Slice0.lean ====
section
/-! SUPPORT. Tests: the well-formedness checks refuse, the worked examples of spec/ come out as the spec gives them,
and each statement of Certificates with hypotheses has states and operands that meet them, clause by clause, at the
boundary values of their ranges. -/

namespace Sys2Proof.Tests

open Sys2Proof Sys2Proof.Machine

/-! ### Helpers -/

/-- A header whose Tag is 7. -/
def hdr : Header := { src := 0, spare0 := 0, tag := 7, spare1 := 0 }

/-- A header from node `n`. -/
def hdrFrom (n : BitVec 5) : Header := { src := n, spare0 := 0, tag := 0, spare1 := 0 }

/-- The part with both links UP, both transmitters busy with an IDLE packet and nothing waiting. -/
def up : State :=
  { State.reset with
    portH := { PortBlock.reset with link := .up, silence := 100, tx := some idlePacketH }
    portN := { PortBlock.reset with link := .up, silence := 100, tx := some idlePacketN }
    mgmt := { State.reset.mgmt with noticeQ := [] } }

/-- The state after a command. -/
def after (c : Instr) (s : State) : State :=
  match exec c s with
  | .next t => t
  | .fault _ => s
  | .refused _ => s

/-- The last response queued after a command: its code, status and results. -/
def answer (c : Instr) (s : State) : Option (Word × Status × List Word) :=
  (after c s).mgmt.respQ.getLast?.map (fun r => (r.code, r.status, r.results))

/-- A frame with no slots, 8 words long. -/
def bare : Frame :=
  { sweepNo := 1, startTime := 0, cause := .command, gap := none, isLinkDown := false, isFinal := false,
    isPartial := false, slots := [] }

/-- `n` frames from Seq `first` on, their words from place 0 of the pool on. -/
def framesFrom (first n : Nat) : List StoredFrame :=
  (List.range n).map (fun i =>
    { seq := BitVec.ofNat 32 (first + i), frame := bare, place := BitVec.ofNat 16 (8 * i) })

/-- A store that holds `n` frames from Seq `first` on. -/
def stored (first n : Nat) (s : State) : State :=
  { s with store := { s.store with
      frames := framesFrom first n, occupancy := 8 * n, poolNext := BitVec.ofNat 16 (8 * n)
      nextSeq := BitVec.ofNat 32 (first + n) } }

/-- The trigger map with one entry put in. -/
def withTrig (i : Fin 8) (e : TrigEntry) (s : State) : State := { s with trig.map := setAt s.trig.map i e }

/-- Line 0 with a seen level. -/
def withLine (l : Level) (s : State) : State :=
  { s with trig.lines := setAt s.trig.lines 0 { seen := some l, ref := some l } }

/-- The sequencer in a state of its own. -/
def inState (q : SeqState) (s : State) : State := { s with seq.st := q }

/-- Entry 0 enabled, alone in the active range, its Divisor 1. -/
def oneEntry (s : State) : State :=
  { s with seq.scanList := setAt s.seq.scanList 0 { ScanEntry.reset with enabled := true } }

/-- A frame under assembly with two included entries and no result. -/
def collecting (s : State) : State :=
  { s with asm.current := some { frame := bare, included := [0, 1], complete := false } }

/-- Slot 1 awaits the reply of entry 0 under generation 1, its timer at `t`. -/
def awaiting (attempts t : Nat) (s : State) : State :=
  { s with req.slots := setAt s.req.slots 1 { use := .await 0 attempts t, gen := 1 } }

/-! ### The well-formedness checks refuse -/

theorem test_wf_params (ws : List Word) (h : ws.length = 1280) : (Instr.arm hdr ws).wellFormed = false := by
  simp [Instr.wellFormed, paramsFit, Config.maxPayload, h]

theorem test_wf_params_fit (ws : List Word) (h : ws.length = 1279) : (Instr.arm hdr ws).wellFormed = true := by
  simp [Instr.wellFormed, paramsFit, Config.maxPayload, h]

theorem test_wf_payload (ws : List Word) (h : ws.length = 1281) : (Instr.srepReceived hdr ws).wellFormed = false := by
  simp [Instr.wellFormed, payloadFits, Config.maxPayload, h]

theorem test_wf_payload_fits (ws : List Word) (h : ws.length = 1280) :
    (Instr.srepReceived hdr ws).wellFormed = true := by
  simp [Instr.wellFormed, payloadFits, Config.maxPayload, h]

theorem test_wf_code_known : (Instr.unknownCommand hdr [25]).wellFormed = false := by decide

theorem test_wf_code_unknown : (Instr.unknownCommand hdr [26]).wellFormed = true := by decide

theorem test_wf_not_damaged :
    (Instr.packetDamaged .h (.closed (packetWords idlePacketH))).wellFormed = false := by decide +kernel

theorem test_wf_overlong_short : (Instr.packetDamaged .h (.overlong [])).wellFormed = false := by decide

theorem test_wf_restarted_long (ws : List Word) (h : ws.length = 1285) :
    (Instr.packetDamaged .h (.restarted ws)).wellFormed = false := by
  simp [Instr.wellFormed, rxRunDamaged, h]

theorem test_wf_not_misrouted : (Instr.packetMisrouted .h idlePacketH).wellFormed = false := by decide

theorem test_wf_good_trigger : (Instr.badTrigger .n hdr [4]).wellFormed = false := by decide

theorem test_wf_forward_to_head : (Instr.forwardToNodes .ncmd 0 hdr []).wellFormed = false := by decide

theorem test_wf_forward_to_gatherer : (Instr.forwardToNodes .ncmd 30 hdr []).wellFormed = false := by decide

theorem test_wf_forward_to_all : (Instr.forwardToNodes .ncmd 31 hdr []).wellFormed = true := by decide

/-- No row of the table gives bits, so no word spells a command. -/
theorem test_decode_none : decodeTableWord 0 0 = none ∧ decodeTableWord 16 0xFFFF = none := ⟨rfl, rfl⟩

/-! ### Packets (Section 10) -/

/-- The SREQ header built in Section 10: 11F8h, 4100h, 2, 7, 2. -/
theorem test_sreq_words :
    (packetWords (built kindSREQ 3 65 [7, 2])).take 5 = [0x11F8#16, 0x4100#16, 2, 7, 2] := by decide

/-- The packet of that example is 6 words long and is undamaged. -/
theorem test_sreq_whole :
    (packetWords (built kindSREQ 3 65 [7, 2])).length = 6
      ∧ runDamaged (packetWords (built kindSREQ 3 65 [7, 2])) = false := by decide +kernel

/-- One bit of it changed, the check fails (R179). -/
theorem test_sreq_bit_error :
    runDamaged ((packetWords (built kindSREQ 3 65 [7, 2])).set 3 6) = true := by decide +kernel

/-- R179 by hand: 16 zero bits fed to FFFFh under 1021h leave 1D0Fh. -/
theorem test_check_word_of_zero : checkWord [0] = 0x1D0F#16 := by decide +kernel

/-- Fewer than four words (R180). -/
theorem test_three_words_damaged : runDamaged [0, 0, 0] = true := by decide

/-- The tags of paragraph 2.12: slot 0 generation 2 is tag 2, slot 1 generations 1 and 2 are tags 65 and 66. -/
theorem test_tags : slotTag 0 2 = 2 ∧ slotTag 1 1 = 65 ∧ slotTag 1 2 = 66 ∧ tagSlot 66 = 1 ∧ tagGen 66 = 2 := by decide

/-- Table 10-9: cause TRIGGER with source 5 in bits 15 to 11. -/
theorem test_cause_words :
    causeWord .period = 0 ∧ causeWord .command = 0x4000#16 ∧ causeWord (.trigger 5) = 0xA800#16 := by decide

/-- The sorting of R183 and R184: a GCMD at Port H, an SREP for the gatherer at Port N, an NEVT for it nowhere. -/
theorem test_sorting :
    sortPacket .h (built kindGCMD 30 0 []) = .management ∧ sortPacket .n (built kindGCMD 30 0 []) = .misrouted
      ∧ sortPacket .n (built kindSREP 30 0 []) = .requestTable ∧ sortPacket .n (built kindSREP 0 0 []) = .fqH
      ∧ sortPacket .n (built kindNEVT 30 0 []) = .misrouted ∧ sortPacket .h (built 12 3 0 []) = .unknownKind := by decide

/-! ### The store's arithmetic (Sections 3 to 6) -/

/-- The worked count of Section 3: 17 words. -/
theorem test_frame_length :
    bareLength { bare with slots := [⟨2, .ok [1, 2, 3, 4]⟩, ⟨5, .busy⟩, ⟨9, .nochan⟩, ⟨11, .ok [9]⟩] } = 17 := by decide

/-- The distances across the wrap of Section 4. -/
theorem test_standing :
    let st := (stored 0xFFFFFFFE 4 up).store
    st.nextSeq = 2 ∧ standing st 0xFFFFFFFE = .stored ∧ standing st 1 = .stored ∧ standing st 2 = .next
      ∧ standing st 0xFFFFFFFD = .passed ∧ standing st 5 = .ahead ∧ older 2 0xFFFFFFFE 1 = true
      ∧ newer 2 5 1 = true := by decide

/-- The six sweeps of Section 1: sweep 4 includes entries 0, 1 and 4. -/
theorem test_included :
    let e : Bool → Nat → ScanEntry := fun b d => { ScanEntry.reset with enabled := b, divisor := d }
    let l0 := up.seq.scanList
    let l := setAt (setAt (setAt (setAt (setAt (setAt l0 0 (e true 1)) 1 (e true 2)) 2 (e true 3)) 4 (e true 4)) 5 (e true 6))
      6 (e true 1)
    let s : State := { up with seq.scanList := l, mgmt.items.lastEntry := 5 }
    includedEntries s 4 = [0, 1, 4] ∧ includedEntries s 6 = [0, 1, 2, 5] := by decide

/-- R65: the words of a frame admitted at place 65,530 run on over the pool's last place to its first, and return
with its release. -/
theorem test_pool_wraps :
    let st := storeAdmit { bare with sweepNo := 7 } { up.store with poolNext := 65530 }
    poolWord st 65530 = some 0 ∧ poolWord st 65533 = some 7 ∧ poolWord st 0 = some 0x4000#16 ∧ poolWord st 1 = some 0
      ∧ poolWord st 2 = none ∧ poolWord st 65529 = none ∧ st.poolNext = 2
      ∧ poolWord (releaseOldest { up with store := st }).store 65533 = none := by decide

/-- R65, R173: FLUSH frees the pool's words, and the next frame's follow the last one's. -/
theorem test_flush_pool :
    let t := after (.flush hdr []) (stored 10 5 up)
    t.store.frames = [] ∧ t.store.occupancy = 0 ∧ t.store.poolNext = 40 := by decide

/-- The claims of Section 5: AckedThrough 104, B1 on 102, B4 on 110, the cursor at 107. -/
def claims : State :=
  { stored 102 18 up with
    ret := { ackedThrough := 104, floor := 102,
             bookmarks := setAt (setAt (Vector.replicate 8 .free) 1 (.set 102)) 4 (.set 110) }
    del := { up.del with liveCursor := 115, session := some { cursor := 107, last := 119, frames := 13 } } }

theorem test_floor : (refloor claims).ret.floor = 102 := by decide

/-- Section 5: MARK_CLEAR(B1) moves the floor to 105 and reports the state SET. -/
theorem test_mark_clear : answer (.markClear hdr [1]) claims = some (16, .ok, [2, 0, 105]) := by decide

/-- Section 5: ACK(116) is AHEAD. -/
theorem test_ack_ahead : answer (.ack hdr [0, 116]) claims = some (14, .ahead, [0, 104, 0, 102]) := by decide

/-- Section 5: with B1 free and the cursor at 108, ACK(114) moves the floor to 108. -/
theorem test_ack_ok :
    answer (.ack hdr [0, 114])
      { claims with
        ret.bookmarks := setAt (Vector.replicate 8 .free) 4 (.set 110)
        del.session := some { cursor := 108, last := 119, frames := 13 } } = some (14, .ok, [0, 114, 0, 108]) := by decide

/-- Section 6: SEQ 330 with count 5 on frames 300 to 339 ends at 334, 5 frames. -/
theorem test_replay_end :
    answer (.replay hdr [2, 0, 0, 330, 5]) (stored 300 40 up) = some (18, .ok, [0, 330, 0, 334, 5, 0]) := by decide

/-- Section 6: SEQ 299 stands as passed and is refused. -/
theorem test_replay_passed :
    answer (.replay hdr [2, 0, 0, 299, 1]) (stored 300 40 up) = some (18, .range, [0, 0, 0, 0, 0, 0]) := by decide

/-- R115: the frames sent by the last session, with none ACTIVE. -/
theorem test_abort_idle : answer (.replayAbort hdr []) up = some (19, .state, [0]) := by decide

/-- Section 5: MARK_PRE 4 on frames 200 to 209 takes 206; MARK_PRE 15 the oldest, 200. -/
theorem test_mark_pre :
    let s := stored 200 10 up
    (markAction 3 { s with mgmt.items.markPre := 4 }).ret.bookmarks[3] = .set 206
      ∧ (markAction 3 { s with mgmt.items.markPre := 15 }).ret.bookmarks[3] = .set 200
      ∧ (markAction 3 s).ret.bookmarks[3] = .pending := by decide

/-- R92: MARK_SET of the newest. -/
theorem test_mark_set :
    answer (.markSet hdr [3, 1, 0, 0]) (stored 200 10 up) = some (15, .ok, [0, 209, 0, 0, 0]) := by decide

/-- Section 4: FILL_HIGH 250 is not above FILL_LOW 400. -/
theorem test_threshold :
    answer (.setItem hdr [7, 0, 250]) { up with mgmt.items.fillLow := 400, mgmt.items.fillHigh := 1000 }
      = some (2, .range, [7, 0, 1000]) := by decide

/-- Section 4: with FILL_LOW 200 and an occupancy of 300, FILL_HIGH 250 makes the store HIGH. -/
theorem test_threshold_high :
    (after (.setItem hdr [7, 0, 250])
      { up with mgmt.items.fillLow := 200, mgmt.items.fillHigh := 1000, store.occupancy := 300 }).mgmt.noticeQ
      = [{ postedAt := 0, body := .fill .high 300 }] := by decide

/-- R105: the credit is held at 255. -/
theorem test_credit_held : answer (.credit hdr [10]) { up with del.credit := 250 } = some (13, .ok, [255]) := by decide

/-- Section 9: CREDIT 10 finds four responses waiting and is lost. -/
theorem test_credit_lost :
    let r : Response := { tag := 1, code := 0, status := .ok, results := [] }
    (after (.credit hdr [10]) { up with mgmt.respQ := [r, r, r, r] }).del.credit = 0
      ∧ (after (.credit hdr [10]) { up with mgmt.respQ := [r, r, r, r] }).mgmt.ctr.overflows = 1 := by decide

/-- R160, R157: an empty payload is answered BADCMD with the code FFFFh. -/
theorem test_empty_command : answer (.unknownCommand hdr []) up = some (0xFFFF#16, .badcmd, []) := by decide

/-- R161: a wrong Length. -/
theorem test_wrong_length : answer (.identify hdr [0]) up = some (0, .length, []) := by decide

/-- R162. -/
theorem test_identify :
    answer (.identify hdr []) up
      = some (0, .ok, [0x01A6#16, 0x0024#16, 3, 64, 4, 1024, 1, 0, 8, 8, 32, 16, 8, 4, 8, 1280]) := by decide

/-- Table 9-3: SILENCE_TIME's default is 100 ticks. -/
theorem test_get_item : answer (.getItem hdr [10]) up = some (1, .ok, [10, 0, 100]) := by decide

/-! ### The sequencer (Section 1) -/

/-- R10. -/
theorem test_sweep_now_idle : answer (.sweepNow hdr []) up = some (12, .state, []) := by decide

/-- R17 with R13: ARM with Now 1 begins sweep 1 and asks entry 0. -/
theorem test_arm_now :
    let t := after (.arm hdr [1]) (oneEntry up)
    t.seq.st = .sweep ∧ t.seq.sweepNo = 1 ∧ t.req.slots[0] = { use := .queued 0 1, gen := 1 } := by decide

/-- R4: no entry of the active range is enabled. -/
theorem test_arm_refused : answer (.arm hdr [1]) up = some (9, .range, []) := by decide

/-- R18: STOP in SWEEP. -/
theorem test_stop_in_sweep : (after (.stop hdr []) (collecting (inState .sweep up))).seq.stopPending = true := by decide

/-- R19: HALT in WAIT_START posts SEQ_IDLE with cause HALT. -/
theorem test_halt :
    (after (.halt hdr []) (inState .waitStart up)).mgmt.noticeQ = [{ postedAt := 0, body := .seqIdle .halt }] := by decide

/-- R13: the period timer reloads, and the start is latched in SWEEP. -/
theorem test_period :
    let t := after .periodTimerExpiry (inState .sweep { up with seq.periodTimer := some 0 })
    t.seq.periodTimer = some 1000 ∧ t.seq.latch = some .period := by decide

/-- R37: a slot with Retries 0 resolves as TIMEOUT; with Retries 1 it is retried under tag 66. -/
theorem test_slot_timer :
    let s := collecting (inState .sweep up)
    (after (.slotTimerExpiry 1) (awaiting 1 0 s)).req.slots[1].use = .free
      ∧ (after (.slotTimerExpiry 1)
          (awaiting 1 0 { s with seq.scanList := setAt s.seq.scanList 0 { ScanEntry.reset with retries := 1 } })).req.slots[1]
        = { use := .queued 0 2, gen := 2 } := by decide

/-- R34: the reply to tag 64 finds slot 1 under generation 1, and is stale. -/
theorem test_stale : (after (.srepReceived { hdr with tag := 64 } [0, 1, 0, 5]) (awaiting 1 5 up)).req.ctr.staleReplies = 1 := by
  decide

/-- R35: the good reply of entry 0, Channel 0, Count 1, resolves slot 1. -/
theorem test_good_reply :
    (after (.srepReceived { hdr with tag := 65 } [0, 1, 0, 5]) (awaiting 1 5 (collecting (inState .sweep up)))).asm.current.map
      (fun a => a.frame.slots) = some [⟨0, .ok [5]⟩] := by decide

/-! ### Triggers, events and the ports (Sections 7, 8 and 10) -/

/-- R128: the first seen level fires nothing. -/
theorem test_first_level : (after (.seenLevelChange 0 ⟨.high, .apart⟩) up).trig.ctr.sources[0] = 0 := by decide

/-- Section 7: TRG0 rises, T0 selects RISE with START, and the start is taken in WAIT_START. -/
theorem test_rise_starts :
    let s := withLine .low (withTrig 0 { detection := .rise, action := .start, bookmark := 0 } (oneEntry (inState .waitStart up)))
    let t := after (.seenLevelChange 0 ⟨.high, .apart⟩) s
    t.seq.st = .sweep ∧ t.trig.ctr.sources[0] = 1 ∧ t.seq.ctr.startsTaken = 1 := by decide

/-- R126, Section 7: TRG0 goes high while T0 selects HIGH; TMAP_WRITE makes T0 RISE with STOP. Apart from the write,
the rise fires; together with the write taken first, it is inside the reference and fires nothing. -/
theorem test_tmap_tie :
    let s := withLine .low (withTrig 0 { detection := .high, action := .start, bookmark := 0 } up)
    let w := after (.tmapWrite hdr [0, 0, 2, 0]) s
    (after (.seenLevelChange 0 ⟨.high, .apart⟩) w).trig.ctr.sources[0] = 1
      ∧ (after (.seenLevelChange 0 ⟨.high, .withWrite⟩) w).trig.ctr.sources[0] = 0
      ∧ (after (.seenLevelChange 0 ⟨.high, .withWrite⟩) w).trig.lines[0] = { seen := some .high, ref := some .high } := by
  decide

/-- The Event Table of Section 8. -/
def events : State :=
  let e0 : EventEntry := ⟨true, 5, 0x40, 0xFF, .drop, none, none, 0⟩
  let e1 : EventEntry := ⟨true, 0, 0x80, 0xF0, .pass, some .t5, some 2, 0⟩
  { up with fwd.table := setAt (setAt up.fwd.table 0 e0) 1 e1 }

/-- Section 8: code 40h from node 5 is dropped by entry 0. -/
theorem test_event_dropped :
    let t := after (.nevtReceived (hdrFrom 5) [0x40]) events
    t.fwd.fqH = [] ∧ t.fwd.ctr.evDropped = 1 ∧ t.fwd.table[0].hits = 1 := by decide

/-- Section 8: code 81h from node 7 hits entry 1, marks B2 and passes. -/
theorem test_event_passed :
    let t := after (.nevtReceived (hdrFrom 7) [0x81]) events
    t.fwd.fqH.length = 1 ∧ t.ret.bookmarks[2] = .pending ∧ t.trig.ctr.sources[5] = 1 := by decide

/-- Section 8: an event of Length 10 is malformed. -/
theorem test_event_malformed :
    (after (.nevtReceived (hdrFrom 9) [1, 0, 0, 0, 0, 0, 0, 0, 0, 0]) events).fwd.ctr.evMalformed = 1 := by decide

/-- R142, Section 9: an NRSP for the head finds the H link DOWN. -/
theorem test_forward_dropped :
    (after (.forwardToHead .nrsp hdr []) { up with portH := PortBlock.reset }).mgmt.noticeQ
      = [{ postedAt := 0, body := .fwdDrop 1 0 }] := by decide

/-- R120, Section 6: with both kinds eligible and the record REPLAY, SWF 50 goes; with the record LIVE, RPF 40. -/
def turns : State :=
  { stored 40 13 up with
    del := { up.del with credit := 3, liveCursor := 50, session := some { cursor := 40, last := 41, frames := 2 } } }

theorem test_swf_goes :
    let t := after .hTransmissionEnd turns
    t.del.liveCursor = 51 ∧ t.del.credit = 2 ∧ t.frameTurn = .live := by decide

theorem test_rpf_goes :
    let t := after .hTransmissionEnd { turns with frameTurn := .live }
    t.del.session = some { cursor := 41, last := 41, frames := 2 } ∧ t.del.framesSent = 1 ∧ t.del.liveCursor = 50 := by
  decide

/-- R185: the silence timer of a link that is UP stands at 0. -/
theorem test_h_loss :
    (after .hSilenceExpiry { turns with portH.silence := 0 }).mgmt.noticeQ
      = [{ postedAt := 0, body := .replayEnd .link 0 }] := by decide

theorem test_n_loss :
    (after .nSilenceExpiry (inState .waitStart { up with portN.silence := 0 })).seq.st = .linkWait := by decide

/-- Section 11: the first undamaged packet brings a DOWN link UP, and RESTART leaves. -/
theorem test_link_up :
    let t := after (.idleReceived .h 30 hdr []) State.reset
    t.portH.link = .up ∧ t.mgmt.noticeQ = [] ∧ t.portH.tx.isSome = true := by decide

/-- R165. -/
theorem test_tick : (after .timeBaseTick up).mgmt.timeBase = 1 := by decide

/-- R76, Section 4: frames 10 to 14, AckedThrough 14: frame 10 goes. -/
theorem test_release :
    ((after .release { stored 10 5 up with ret.ackedThrough := 14 }).store.frames.map (fun f => f.seq))
      = [11, 12, 13, 14] := by decide

/-- R175: a reset that began at power-on reports POWER. -/
theorem test_restart_cause :
    (after .leaveHardwareReset (after (.hardwareReset .line) (after (.hardwareReset .power) up))).mgmt.noticeQ
      = [{ postedAt := 0, body := .restart .power }] := by decide

/-- R176: RESET keeps the links and answers by RESTART. -/
theorem test_reset_command :
    let t := after (.reset hdr []) { up with del.credit := 9 }
    t.portH.link = .up ∧ t.del.credit = 0 ∧ t.mgmt.respQ = []
      ∧ t.mgmt.noticeQ = [{ postedAt := 0, body := .restart .command }] := by decide

/-! ### Witnesses: states and operands that meet the hypotheses of the statements -/

theorem up_takes : TakesCommands up := ⟨rfl, by decide⟩

theorem test_witness_StepTakesFrontCommand : State.reset.pending = [] := rfl

theorem test_witness_EveryCommandCompletes :
    ({ up with held := some .line } : State).held.isSome ∧ (∀ k, Instr.timeBaseTick ≠ .hardwareReset k)
      ∧ Instr.timeBaseTick ≠ .leaveHardwareReset := by
  refine ⟨rfl, fun k h => ?_, fun h => ?_⟩ <;> cases h

theorem test_witness_HardwareResetRestoresEveryBlock : ({ up with held := some .power } : State).held.isSome := rfl

/-- One frame stored and not yet sent, on an UP H link with credit 0, and a tick waiting. -/
def oneFrame : State :=
  let s := stored 0 1 up
  { s with pending := [.timeBaseTick] }

theorem oneFrame_stored : StoreLaw oneFrame := by
  refine ⟨by decide, fun i h => ?_, by decide, by decide, fun i h => ?_⟩
  all_goals
    have : oneFrame.store.frames.length = 1 := rfl
    obtain rfl : i = 0 := by omega
    rfl

theorem test_witness_FramePathLawKept : FramePathLaw oneFrame ∧ step oneFrame = .next (tick (stored 0 1 up)) := by
  refine ⟨⟨oneFrame_stored, ?_, ?_⟩, rfl⟩
  · exact ⟨by decide, by decide, by decide, by decide⟩
  · refine ⟨by decide, fun x hx => ?_, by decide⟩
    cases hx

/-- A sweep with three included entries, in mode `m`: entry 1 has its result, entry 0 is carried out in slot 1, and
entry 63 is still to come; the N silence timer has run out. -/
def sweeping (m : SweepMode) : State :=
  let on : ScanEntry := { ScanEntry.reset with enabled := true }
  let l := up.seq.scanList
  let s := awaiting 1 5 (inState .sweep { up with mgmt.items.lastEntry := 63, portN.silence := 0 })
  { s with
    seq.mode := m
    seq.scanList := setAt (setAt (setAt l 0 on) 1 on) 63 on
    seq.available := if m = .step then [] else [63]
    seq.remaining := if m = .step then [63] else []
    asm.current := some
      { frame := { bare with slots := [⟨1, .busy⟩] }, included := [0, 1, 63], complete := false } }

theorem sweeping_kept (m : SweepMode) : RequestPathLaw (sweeping m) := by
  refine ⟨⟨by cases m <;> decide, by cases m <;> decide, fun h => absurd rfl h⟩,
    ⟨⟨_, rfl, rfl, ?_, ?_, ?_⟩, by cases m <;> rfl⟩, ⟨by cases m <;> decide, by cases m <;> decide⟩,
    fun h => ?_, fun a ha => ?_⟩
  · cases m <;> decide
  · cases m <;> decide
  · cases m <;> decide
  · cases m <;> cases h
  · cases ha
    cases m <;> decide

/-- The sweep of `sweeping`, paused in STEP mode with entries 0 and 1 done. -/
def paused : State :=
  let s := sweeping .step
  { s with
    seq.st := .stepPause
    req := up.req
    asm.current := some
      { frame := { bare with slots := [⟨0, .ok [5]⟩, ⟨1, .busy⟩] }, included := [0, 1, 63], complete := false } }

theorem paused_kept : RequestPathLaw paused := by
  refine ⟨⟨by decide, by decide, by decide⟩, ⟨⟨_, rfl, rfl, by decide, by decide, by decide⟩, rfl, rfl, rfl, rfl⟩,
    ⟨by decide, by decide⟩, (fun h => by cases h), fun a ha => ?_⟩
  cases ha
  decide

theorem test_witness_RequestPathLawKept :
    RequestPathLaw { up with pending := [.release] }
      ∧ (∃ t, step { up with pending := [.release] } = .next t)
      ∧ RequestPathLaw { sweeping .continuous with pending := [.stop hdr []] } ∧ RequestPathLaw paused
      ∧ RequestPathLaw { collecting (inState .admitWait up) with
          asm.current := some { frame := bare, included := [], complete := true } } := by
  refine ⟨⟨⟨by decide, by decide, by decide⟩, ⟨rfl, rfl, rfl, rfl⟩, ⟨by decide, by decide⟩, (fun h => by cases h),
      fun a ha => by cases ha⟩, ⟨_, rfl⟩, sweeping_kept .continuous, paused_kept,
    ⟨⟨by decide, by decide, by decide⟩, ⟨_, rfl, rfl⟩, ⟨by decide, by decide⟩, (fun h => by cases h), fun a ha => ?_⟩⟩
  cases ha
  decide

theorem test_witness_QueueAndCreditLawKept :
    let s : State := { up with del.credit := 255, pending := [.release] }
    QueueLaw s ∧ CreditLaw s ∧ ∃ t, step s = .next t :=
  ⟨⟨by decide, by decide, by decide, by decide⟩, by unfold CreditLaw; decide, ⟨_, rfl⟩⟩

theorem test_witness_TableLawKept :
    let s : State := { up with mgmt.items.fillHigh := 65536, mgmt.items.fillLow := 65535, pending := [.release] }
    TableLaw s ∧ ∃ t, step s = .next t :=
  ⟨⟨by decide, by decide, by decide, by decide⟩, ⟨_, rfl⟩⟩

theorem test_witness_HeadDownLawKept :
    let s : State := { up with portH := { PortBlock.reset with tx := some idlePacketH }, pending := [.release] }
    HeadDownLaw s ∧ ∃ t, step s = .next t := by
  refine ⟨fun _ => ⟨rfl, fun p hp => ?_, rfl, rfl, rfl, rfl⟩, ⟨_, rfl⟩⟩
  cases hp; rfl

theorem test_witness_TransmitterLawKept :
    let s : State := { up with portH.tx := none, pending := [.release] }
    RequestQueueLaw s ∧ TransmitterLaw s ∧ ∃ t, step s = .next t :=
  ⟨⟨by decide, by decide⟩, ⟨fun _ _ => ⟨rfl, rfl, rfl, rfl, rfl⟩, fun _ h => by cases h⟩, ⟨_, rfl⟩⟩

theorem test_witness_TransmittersLeave :
    (portOf .h State.reset).link = .down ∧ (portOf .n up).tx.isSome ∧ (up.portH.link = .down ∨ up.portH.tx.isSome)
      ∧ (up.portN.link = .down ∨ up.portN.tx.isSome) := by decide

theorem test_witness_ArrivalBringsLinkUp :
    up.held = none ∧ (portOf .h up).link = .up ∧ (portOf .n up).link = .up ∧ (portOf .h State.reset).link = .down
      ∧ (portOf .n State.reset).link = .down := by decide

theorem test_witness_DiscardedPacketsAreCounted (ws : List Word) (h : ws.length = 1285) :
    let misrouted : Port → Packet → Prop := fun p q =>
      let k := q.kind.toNat
      let d := q.dest.toNat
      1 ≤ k ∧ k ≤ 11 ∧ match p with
        | .h => ¬ (d = 30 ∧ (k = 6 ∨ k = 11)) ∧ ¬ ((1 ≤ d ∧ d ≤ 29 ∨ d = 31) ∧ (k = 1 ∨ k = 3))
        | .n => ¬ (d = 30 ∧ (k = 2 ∨ k = 11)) ∧ ¬ (d = 0 ∧ (k = 2 ∨ k = 4 ∨ k = 5))
    up.held = none ∧ misrouted .n (built kindGCMD 30 0 []) ∧ misrouted .h (built kindSREP 0 0 [])
      ∧ misrouted .h (built 11 31 0 []) ∧ misrouted .n (built 1 30 0 [])
      ∧ ([] : List Word).length ≠ 1 ∧ ([3] : List Word).length = 1 ∧ (([3] : List Word).headD 0).toNat < 4
      ∧ 7 < (([8] : List Word).headD 0).toNat
      ∧ ([0, 0, 0] : List Word).length < 4 ∧ 1280 < (([0, 0, 1281, 0] : List Word).getD 2 0).toNat
      ∧ ([0, 0, 1, 0] : List Word).length ≠ (([0, 0, 1, 0] : List Word).getD 2 0).toNat + 4
      ∧ checkWord ([0, 0, 0, 0] : List Word).dropLast ≠ ([0, 0, 0, 0] : List Word).getLastD 0
      ∧ (ws.take 1284).length ≤ 1284 ∧ ws.length = 1285 := by
  refine ⟨rfl, by decide, by decide, by decide, by decide, by decide, by decide, by decide, by decide, by decide,
    by decide, by decide, by decide +kernel, ?_, h⟩
  simp

/-- Four responses wait. -/
def full : State :=
  let r : Response := { tag := 1, code := 0, status := .ok, results := [] }
  { up with mgmt.respQ := [r, r, r, r] }

theorem test_witness_OverflowHasNoEffect :
    full.held = none ∧ 4 ≤ (arrive .h full).mgmt.respQ.length ∧ (gcmdParts (.reset hdr [])).isSome
      ∧ Instr.commandOverflow hdr [] = .commandOverflow hdr [] ∧ (Instr.unknownCommand hdr []).wellFormed = true := by
  decide

theorem test_witness_BadCodeAndWrongLengthAreAnswered :
    TakesCommands up ∧ 26 ≤ (([26] : List Word).headD 0).toNat ∧ gcmdParts (.identify hdr [0]) = some (hdr, 0, [0])
      ∧ lengthRight 0 [0] = false ∧ gcmdParts (.scanWrite hdr [0, 1]) = some (hdr, 3, [0, 1])
      ∧ lengthRight 3 [0, 1] = false := ⟨up_takes, by decide⟩

theorem test_witness_IdentifyReportsThePart : TakesCommands up := up_takes

theorem test_witness_StatusReports :
    TakesCommands claims ∧ TakesCommands (collecting (awaiting 1 5 (inState .sweep up))) := ⟨up_takes, up_takes⟩

theorem test_witness_TableReads :
    TakesCommands up
      ∧ ((63 : Word).toNat < 64 ∧ 1 ≤ (1 : Word).toNat ∧ (63 : Word).toNat + (1 : Word).toNat ≤ 64)
      ∧ ¬ ((63 : Word).toNat < 64 ∧ 1 ≤ (2 : Word).toNat ∧ (63 : Word).toNat + (2 : Word).toNat ≤ 64)
      ∧ ((0 : Word).toNat < 32 ∧ 1 ≤ (32 : Word).toNat ∧ (0 : Word).toNat + (32 : Word).toNat ≤ 32)
      ∧ ¬ ((32 : Word).toNat < 32 ∧ 1 ≤ (1 : Word).toNat ∧ (32 : Word).toNat + (1 : Word).toNat ≤ 32) :=
  ⟨up_takes, by decide⟩

theorem test_witness_GetItemReportsTheValue :
    TakesCommands up ∧ (itemValues (arrive .h up).mgmt)[(13 : Word).toNat]? = some 0 ∧ 13 < (14 : Word).toNat :=
  ⟨up_takes, by decide⟩

theorem test_witness_CountersReadAndCleared :
    TakesCommands up ∧ allGroups[(7 : Word).toNat]? = some .commands ∧ (15 : Word).toNat = 15 ∧ 7 < (8 : Word).toNat
      ∧ (8 : Word).toNat ≠ 15 := ⟨up_takes, by decide⟩

theorem test_witness_SetItemRefused :
    TakesCommands up ∧ 13 < (14 : Word).toNat ∧ (itemValues (arrive .h up).mgmt)[10]? = some 100 ∧ ¬ valueAllowed 10 31
      ∧ valueAllowed 10 32 ∧ ¬ writableNow 0 (arrive .h (inState .sweep up)) ∧ valueAllowed 0 2
      ∧ valueAllowed 7 16384 ∧ writableNow 7 (arrive .h up) ∧ ¬ thresholdsKept 7 16384 (arrive .h up) := by
  refine ⟨up_takes, by decide, by decide, ?_, ?_, ?_, ?_, ?_, ?_, ?_⟩ <;>
    simp [valueAllowed, itemRanges, writableNow, thresholdsKept]
  all_goals decide

theorem test_witness_SetItemAccepted :
    TakesCommands up ∧ valueAllowed 0 2 ∧ writableNow 0 (arrive .h up) ∧ thresholdsKept 0 2 (arrive .h up)
      ∧ valueAllowed 7 65536 ∧ writableNow 7 (arrive .h up) ∧ thresholdsKept 7 65536 (arrive .h up)
      ∧ valueAllowed 8 49151 ∧ writableNow 8 (arrive .h up) ∧ thresholdsKept 8 49151 (arrive .h up)
      ∧ valueAllowed 10 32 ∧ valueAllowed 5 1 ∧ (arrive .h up).seq.st ≠ .admitWait
      ∧ (arrive .h (inState .admitWait up)).seq.st = .admitWait := by
  refine ⟨up_takes, ?_, ?_, ?_, ?_, ?_, ?_, ?_, ?_, ?_, ?_, ?_, by decide, by decide⟩ <;>
    simp [valueAllowed, itemRanges, writableNow, thresholdsKept]
  all_goals decide

/-- The seven words of a Scan List entry at the top of every range. -/
def topEntry : List Word := [1, 29, 63, 16, 255, 255, 3]

theorem test_witness_ScanWriteWritesTheRun :
    TakesCommands up ∧ [topEntry].length = (1 : Word).toNat ∧ (∀ e ∈ [topEntry], e.length = 7)
      ∧ (arrive .h (inState .sweep up)).seq.st ≠ .idle ∧ (arrive .h up).seq.st = .idle
      ∧ ((63 : Word).toNat ≤ 63 ∧ 1 ≤ (1 : Word).toNat ∧ (63 : Word).toNat + (1 : Word).toNat ≤ 64
        ∧ ∀ e ∈ [topEntry], (e.getD 0 0).toNat ≤ 1 ∧ 1 ≤ (e.getD 1 0).toNat ∧ (e.getD 1 0).toNat ≤ 29
          ∧ (e.getD 2 0).toNat ≤ 63 ∧ 1 ≤ (e.getD 3 0).toNat ∧ (e.getD 3 0).toNat ≤ 16
          ∧ 1 ≤ (e.getD 4 0).toNat ∧ (e.getD 4 0).toNat ≤ 255
          ∧ 1 ≤ (e.getD 5 0).toNat ∧ (e.getD 5 0).toNat ≤ 255 ∧ (e.getD 6 0).toNat ≤ 3)
      ∧ ¬ (64 : Word).toNat ≤ 63 := ⟨up_takes, by decide⟩

theorem test_witness_EventWriteKeepsHitCount :
    TakesCommands up ∧ ¬ (32 : Word).toNat ≤ 31
      ∧ ((31 : Word).toNat ≤ 31 ∧ (1 : Word).toNat ≤ 1 ∧ (29 : Word).toNat ≤ 29 ∧ (255 : Word).toNat ≤ 255
        ∧ (255 : Word).toNat ≤ 255 ∧ (1 : Word).toNat ≤ 1 ∧ (4 ≤ (7 : Word).toNat ∧ (7 : Word).toNat ≤ 7)
        ∧ (8 : Word).toNat ≤ 8) := ⟨up_takes, by decide⟩

theorem test_witness_TmapWriteStoresTheEntry :
    let e : TrigEntry := { detection := .low, action := .start, bookmark := 7 }
    let f : TrigEntry := { detection := .rise, action := .mark, bookmark := 7 }
    TakesCommands up ∧ ¬ ((3 : Word).toNat < 4 → 2 ≤ (3 : Word).toNat → (2 : Word).toNat = 1)
      ∧ ((3 : Word).toNat ≤ 7 ∧ (1 : Word).toNat ≤ 4 ∧ (7 : Word).toNat ≤ 7
        ∧ ((3 : Word).toNat < 4 → (3 : Word).toNat ≤ 3 ∧ (2 ≤ (3 : Word).toNat → (1 : Word).toNat = 1)))
      ∧ (3 : Fin 8).val = (3 : Word).toNat ∧ actionWord e.action = 1 ∧ detectionWord e.detection = 3
      ∧ e.bookmark.val = (7 : Word).toNat ∧ (3 : Fin 4).val = (3 : Fin 8).val
      ∧ (7 : Fin 8).val = (7 : Word).toNat ∧ actionWord f.action = 4 ∧ f.detection = .rise := ⟨up_takes, by decide⟩

theorem test_witness_StartDisposal :
    up.seq.st = .idle ∧ (inState .waitStart up).seq.st = .waitStart
      ∧ ({ inState .stepPause up with seq.remaining := [63] } : State).seq.remaining = 63 :: []
      ∧ ({ inState .admitWait up with seq.stopPending := true } : State).seq.stopPending = true
      ∧ (inState .linkWait up).seq.latch = none
      ∧ ({ inState .linkWait up with seq.latch := some .period } : State).seq.latch ≠ none := by decide

theorem test_witness_SweepNowDeliversAStart :
    TakesCommands up ∧ (arrive .h up).seq.st = .idle ∧ (arrive .h (inState .linkWait up)).seq.st ≠ .idle :=
  ⟨up_takes, by decide⟩

theorem test_witness_SweepBegins :
    includedEntries (oneEntry up) (up.seq.sweepNo + 1) ≠ [] ∧ includedEntries up (up.seq.sweepNo + 1) = [] := by decide

theorem test_witness_EntriesAreIssued :
    let s : State := { inState .sweep up with seq.available := [0, 1, 2, 3, 63] }
    let m : State := { awaiting 1 5 s with
      req.slots := setAt (awaiting 1 5 s).req.slots 0 { use := .queued 7 1, gen := 1 } }
    s.seq.st = .sweep ∧ s.seq.maxOut ≤ 4 ∧ (∀ i : Fin 4, s.req.slots[i].use = .free) ∧ s.portN.link = .up
      ∧ ({ s with portN := PortBlock.reset } : State).portN.link = .down
      ∧ busyCount m.req = 2 ∧ busyCount m.req < m.seq.maxOut ∧ m.seq.available = 0 :: [1, 2, 3, 63]
      ∧ m.req.slots[(2 : Fin 4)].use = .free ∧ (∀ j : Fin 4, j < 2 → m.req.slots[j].use ≠ .free)
      ∧ ({ m with seq.maxOut := 2 } : State).seq.maxOut ≤ busyCount m.req ∧ up.seq.available = [] := by decide

/-- Line 1's source selects HIGH, and the line is high. -/
def gateOneOpen (s : State) : State :=
  let t := withTrig 1 { detection := .high, action := .start, bookmark := 0 } s
  { t with trig.lines := setAt t.trig.lines 1 { seen := some .high, ref := some .high } }

theorem test_witness_ArmStartsTheArming :
    let a := arrive .h (oneEntry up)
    let d := arrive .h (oneEntry { up with portN := PortBlock.reset })
    TakesCommands (oneEntry up) ∧ 1 < (2 : Word).toNat ∧ (arrive .h (inState .sweep up)).seq.st ≠ .idle
      ∧ (¬ ∃ i : Fin 64, (arrive .h up).mgmt.items.firstEntry ≤ i.val ∧ i.val ≤ (arrive .h up).mgmt.items.lastEntry
        ∧ (arrive .h up).seq.scanList[i].enabled = true)
      ∧ (∃ i : Fin 64, a.mgmt.items.firstEntry ≤ i.val ∧ i.val ≤ a.mgmt.items.lastEntry
        ∧ a.seq.scanList[i].enabled = true)
      ∧ (∃ i : Fin 64, d.mgmt.items.firstEntry ≤ i.val ∧ i.val ≤ d.mgmt.items.lastEntry
        ∧ d.seq.scanList[i].enabled = true)
      ∧ a.seq.st = .idle ∧ d.seq.st = .idle ∧ d.portN.link = .down ∧ a.portN.link = .up ∧ openGates a = []
      ∧ openGates (arrive .h (gateOneOpen (oneEntry up))) = [1] := ⟨up_takes, by decide⟩

/-- FIRST_ENTRY above LAST_ENTRY: no entry is armable. -/
theorem test_witness_ArmStartsTheArming_crossed :
    let e := arrive .h (oneEntry { up with mgmt.items.firstEntry := 1 })
    e.mgmt.items.lastEntry < e.mgmt.items.firstEntry
      ∧ ¬ ∃ i : Fin 64, e.mgmt.items.firstEntry ≤ i.val ∧ i.val ≤ e.mgmt.items.lastEntry
        ∧ e.seq.scanList[i].enabled = true := by decide

/-- Now 1 and a gate open: two starts meet, and the free choice, whichever it is, names one of them. -/
theorem test_witness_ArmStartsTheArming_meeting :
    let t := arrive .h (gateOneOpen (oneEntry up))
    let meeting : List Contender := [.arriving .command] ++ (openGates t).map Contender.level
    let chosen := meeting[Config.freeChoice t.choices % meeting.length]?
    meeting.length = 2 ∧ (chosen = some (.arriving .command) ∨ chosen = some (.level 1)) := by
  refine ⟨by decide, ?_⟩
  have hm : [Contender.arriving .command] ++ (openGates (arrive .h (gateOneOpen (oneEntry up)))).map Contender.level
      = [.arriving .command, .level 1] := by decide
  simp only [hm]
  generalize Config.freeChoice _ = n
  have : n % 2 = 0 ∨ n % 2 = 1 := by omega
  rcases this with h | h <;> simp [h]

theorem test_witness_StopAndHaltEndTheArming :
    TakesCommands up ∧ (arrive .h up).seq.st = .idle ∧ (arrive .h (inState .linkWait up)).seq.st = .linkWait
      ∧ (arrive .h (inState .sweep up)).seq.st = .sweep ∧ (arrive .h (inState .stepPause up)).seq.st = .stepPause
      ∧ (arrive .h (inState .admitWait up)).seq.st = .admitWait
      ∧ (arrive .h (collecting (inState .admitWait up))).asm.current
        = some { frame := bare, included := [0, 1], complete := false } := ⟨up_takes, by decide⟩

theorem test_witness_OutcomeDecidesTheState :
    ({ up with seq.stopPending := true } : State).seq.stopPending = true ∧ up.seq.stopPending = false
      ∧ up.seq.mode = .single ∧ ({ up with seq.mode := .step } : State).seq.mode ≠ .single := by decide

theorem test_witness_CompletionMeetsAdmission :
    (collecting up).asm.current = some { frame := bare, included := [0, 1], complete := false }
      ∧ ((collecting up).store.frames.length < 1024 ∧ frameLength bare ≤ 65536 - (collecting up).store.occupancy)
      ∧ frameLength bare ≤ 65536 - ({ collecting up with store.occupancy := 65528 } : State).store.occupancy
      ∧ ¬ frameLength bare ≤ 65536 - ({ collecting up with store.occupancy := 65529 } : State).store.occupancy
      ∧ (collecting up).mgmt.items.admitPolicy = .hold
      ∧ ({ collecting up with mgmt.items.admitPolicy := .discard } : State).mgmt.items.admitPolicy = .discard
      ∧ StoreLaw oneFrame ∧ frameLength bare ≤ 65536 - oneFrame.store.occupancy
      ∧ (collecting oneFrame).asm.current = some { frame := bare, included := [0, 1], complete := false } :=
  ⟨by decide, by decide, by decide, by decide, by decide, by decide, oneFrame_stored, by decide, by decide⟩

theorem test_witness_ResultMovesTheSweep :
    let a : Assembly := { frame := bare, included := [0, 1], complete := false }
    let s : State := { collecting (inState .sweep up) with
      seq.mode := .step, seq.latch := some .command, seq.remaining := [1] }
    s.asm.current = some a ∧ a.frame.slots.length < a.included.length ∧ s.seq.mode = .step ∧ s.seq.stopPending = false
      ∧ openGates s = [] ∧ s.seq.latch = some .command ∧ s.seq.remaining = 1 :: [] ∧ (collecting up).seq.mode ≠ .step
      ∧ up.seq.latch = none ∧ ({ s with seq.stopPending := true } : State).seq.stopPending = true
      ∧ ({ a with included := [] } : Assembly).included.length ≤ a.frame.slots.length := by decide

/-- A gate open on entry to STEP_PAUSE: alone, and together with a latched start, when the free choice, whichever it
is, names one of the two. -/
theorem test_witness_ResultMovesTheSweep_gates :
    let s : State := gateOneOpen { collecting (inState .sweep up) with seq.mode := .step, seq.remaining := [1] }
    let due : List Contender := [.latched .command] ++ (openGates s).map Contender.level
    let chosen := due[Config.freeChoice s.choices % due.length]?
    s.seq.mode = .step ∧ s.seq.stopPending = false ∧ s.seq.latch = none ∧ openGates s = [1]
      ∧ s.seq.remaining = 1 :: [] ∧ s.asm.current.isSome ∧ due.length = 2
      ∧ (chosen = some (.latched .command) ∨ chosen = some (.level 1)) := by
  refine ⟨by decide, by decide, by decide, by decide, by decide, by decide, by decide, ?_⟩
  have hg : openGates (gateOneOpen { collecting (inState .sweep up) with seq.mode := .step, seq.remaining := [1] })
      = [1] := by decide
  simp only [hg]
  generalize Config.freeChoice _ = n
  have : n % 2 = 0 ∨ n % 2 = 1 := by omega
  rcases this with h | h <;> simp [h]

/-- R131, R14: the gate of T1 is open as entry 0's result leaves entry 1 to come; T1 is counted and entry 1 issued. -/
theorem test_gate_in_step_pause :
    let s : State := gateOneOpen { collecting (inState .sweep up) with seq.mode := .step, seq.remaining := [1] }
    let t := afterResult s
    t.seq.st = .sweep ∧ t.trig.ctr.sources[1] = 1 ∧ t.seq.ctr.startsTaken = 1
      ∧ t.req.slots[0] = { use := .queued 1 1, gen := 1 } := by decide

/-- Entry 0 enabled and the sequencer in WAIT_START. -/
def waiting : State := oneEntry (inState .waitStart up)

theorem waiting_tables : TableLaw waiting ∧ ∃ n i, Included waiting n i := by
  refine ⟨⟨by decide, by decide, by decide, by decide⟩, ⟨1, 0, by decide, by decide, by decide, ?_⟩⟩
  show 1 ∣ _
  exact Nat.one_dvd _

theorem gate_tables : TableLaw (gateOneOpen { waiting with seq.latch := some .command })
    ∧ ∃ n i, Included (gateOneOpen { waiting with seq.latch := some .command }) n i := by
  refine ⟨⟨by decide, by decide, by decide, by decide⟩, ⟨1, 0, by decide, by decide, by decide, ?_⟩⟩
  show 1 ∣ _
  exact Nat.one_dvd _

theorem test_witness_SweepCascadeSettles :
    let due : State → List Contender := fun s =>
      (match s.seq.latch with
        | some c => [.latched c]
        | none => if s.seq.periodTimer ≠ none ∧ s.seq.period = 0 then [.arriving .period] else [])
      ++ (openGates s).map Contender.level
    TableLaw waiting ∧ (∃ n i, Included waiting n i) ∧ waiting.seq.st = .waitStart ∧ due waiting = []
      ∧ (settled waiting).seq.st = .waitStart
      ∧ due { waiting with seq.latch := some .command } = [.latched .command]
      ∧ due { waiting with seq.periodTimer := some 0, seq.period := 0 } = [.arriving .period]
      ∧ due (gateOneOpen waiting) = [.level 1]
      ∧ TableLaw (gateOneOpen { waiting with seq.latch := some .command })
      ∧ (∃ n i, Included (gateOneOpen { waiting with seq.latch := some .command }) n i)
      ∧ due (gateOneOpen { waiting with seq.latch := some .command }) = [.latched .command, .level 1]
      ∧ due (gateOneOpen { waiting with seq.periodTimer := some 0, seq.period := 0 })
        = [.arriving .period, .level 1] :=
  ⟨waiting_tables.1, waiting_tables.2, rfl, by decide, by decide, by decide, by decide, by decide, gate_tables.1,
    gate_tables.2, by decide, by decide⟩

theorem test_witness_CreditIsGranted :
    TakesCommands up ∧ (1 ≤ (255 : Word).toNat ∧ (255 : Word).toNat ≤ 255) ∧ (0 : Word).toNat = 0
      ∧ 255 < (256 : Word).toNat := ⟨up_takes, by decide⟩

theorem test_witness_AckMovesAckedThrough :
    let t := arrive .h claims
    let d := dist t.store.nextSeq
    TakesCommands claims ∧ TakesCommands { claims with mgmt.items.retainMode := .sent } ∧ t.mgmt.items.retainMode = .acked
      ∧ d 115 < d (t.del.liveCursor - 1) ∧ ¬ (1 ≤ d 120 ∧ d 120 ≤ 2147483648)
      ∧ (1 ≤ d 104 ∧ d 104 ≤ 2147483648 ∧ ¬ d 104 < d (t.del.liveCursor - 1) ∧ d t.ret.ackedThrough ≤ d 104)
      ∧ (1 ≤ d 114 ∧ d 114 ≤ 2147483648 ∧ ¬ d 114 < d (t.del.liveCursor - 1) ∧ d 114 < d t.ret.ackedThrough) :=
  ⟨up_takes, up_takes, by decide⟩

theorem test_witness_FloorIsOldestCandidate (n : SeqNum)
    (h : n = up.ret.ackedThrough + 1 ∨ (∃ b : Fin 8, up.ret.bookmarks[b] = .set n)
      ∨ ∃ x ∈ up.del.session, x.cursor = n) : dist up.store.nextSeq n ≤ 2147483648 := by
  rcases h with rfl | ⟨b, hb⟩ | ⟨x, hx, _⟩
  · decide
  · have hf : ∀ b : Fin 8, up.ret.bookmarks[b] = .free := by decide
    rw [hf b] at hb
    cases hb
  · cases hx

theorem test_witness_MarkSetAndClear :
    let t := arrive .h (stored 200 10 up)
    let c := t.store.frames.length
    TakesCommands (stored 200 10 up) ∧ (7 : Word).toNat = (7 : Fin 8).val ∧ 0 < c ∧ c ≤ 1024
      ∧ (200 : SeqNum) = t.store.nextSeq - BitVec.ofNat 32 c ∧ (209 : SeqNum) = t.store.nextSeq - 1
      ∧ (1 ≤ dist t.store.nextSeq 200 ∧ dist t.store.nextSeq 200 ≤ c) ∧ 7 < (8 : Word).toNat
      ∧ (arrive .h up).store.frames.length = 0 := ⟨up_takes, by decide⟩

theorem test_witness_MarkActionTakesFreeBookmark :
    up.ret.bookmarks[(7 : Fin 8)] = .free ∧ up.mgmt.items.markPre = 0 ∧ (stored 200 10 up).store.frames.length = 10
      ∧ claims.ret.bookmarks[(1 : Fin 8)] ≠ .free := by decide

theorem test_witness_ReplayOpensASession :
    let t := arrive .h (stored 300 40 up)
    TakesCommands claims ∧ TakesCommands (stored 300 40 up) ∧ (arrive .h claims).del.session.isSome
      ∧ t.del.session = none ∧ ((2 : Word).toNat ≤ 2 ∧ (1024 : Word).toNat ≤ 1024) ∧ ¬ (1025 : Word).toNat ≤ 1024
      ∧ (arrive .h up).store.frames.length = 0 ∧ (1 ≤ t.store.frames.length ∧ t.store.frames.length ≤ 1024)
      ∧ (300 : SeqNum) = t.store.nextSeq - BitVec.ofNat 32 t.store.frames.length
      ∧ (1 ≤ dist t.store.nextSeq 300 ∧ dist t.store.nextSeq 300 ≤ t.store.frames.length)
      ∧ ¬ dist t.store.nextSeq 299 ≤ t.store.frames.length ∧ t.ret.bookmarks[(7 : Fin 8)] = .free :=
  ⟨up_takes, up_takes, by decide⟩

theorem test_witness_ReplayAbortEndsTheSession :
    TakesCommands claims ∧ (arrive .h claims).del.session ≠ none ∧ TakesCommands up ∧ (arrive .h up).del.session = none :=
  ⟨up_takes, by decide, up_takes, by decide⟩

theorem test_witness_FlushEmptiesTheStore :
    TakesCommands up ∧ (arrive .h up).seq.st = .idle ∧ TakesCommands (inState .sweep claims)
      ∧ (arrive .h (inState .sweep claims)).seq.st ≠ .idle := ⟨up_takes, by decide, up_takes, by decide⟩

theorem test_witness_ResetKeepsTheLinks : TakesCommands claims := up_takes

theorem test_witness_ReplyResolvesOrRetries :
    let t := arrive .n (awaiting 1 5 up)
    let e := t.seq.scanList[(0 : Fin 64)]
    (awaiting 1 5 up).held = none ∧ t.req.slots[tagSlot 65] = { use := .await 0 1 5, gen := tagGen 65 }
      ∧ t.req.slots[tagSlot 64].gen ≠ tagGen 64 ∧ (0 : Word).toNat = e.channel.toNat ∧ (1 : Word).toNat = e.count
      ∧ ([5] : List Word).length = e.count ∧ ([] : List Word).length ≠ e.count ∧ 2 < (3 : Word).toNat ∧ e.retries < 1
      ∧ ¬ e.retries < 0 ∧ ([0, 1] : List Word).length < 3
      ∧ (sweeping .single).asm.current
        = some { frame := { bare with slots := [⟨1, .busy⟩] }, included := [0, 1, 63], complete := false }
      ∧ (slotEntries [(⟨1, .busy⟩ : FrameSlot)]).Pairwise (· < ·) ∧ 0 ∉ slotEntries [(⟨1, .busy⟩ : FrameSlot)] := by
  decide

theorem test_witness_TimersTickAndExpire :
    let s := awaiting 1 0 up
    s.held = none ∧ s.req.slots[(1 : Fin 4)] = { use := .await 0 1 0, gen := 1 } ∧ s.seq.scanList[(0 : Fin 64)].retries < 1
      ∧ (awaiting 0 0 up).req.slots[(1 : Fin 4)] = { use := .await 0 0 0, gen := 1 }
      ∧ ({ up with seq.periodTimer := some 0 } : State).seq.periodTimer = some 0 ∧ up.seq.period ≠ 0 := by decide

theorem test_witness_HeadLinkLossClearsDelivery :
    let s : State := { turns with portH.silence := 0 }
    s.held = none ∧ s.portH.link = .up ∧ s.portH.silence = 0 := by decide

theorem test_witness_NodeLinkLossCompletesTheSweep :
    let quiet : SeqState → State := fun q => inState q { up with portN.silence := 0 }
    let held : State := { quiet .admitWait with
      asm.current := some { frame := bare, included := [], complete := true } }
    (quiet .idle).held = none ∧ (quiet .idle).portN.link = .up ∧ (quiet .idle).portN.silence = 0
      ∧ RequestPathLaw (quiet .idle) ∧ RequestPathLaw (quiet .waitStart) ∧ RequestPathLaw held
      ∧ held.seq.st = .admitWait
      ∧ (∀ m, RequestPathLaw (sweeping m) ∧ (sweeping m).held = none ∧ (sweeping m).seq.st = .sweep
        ∧ (sweeping m).portN.link = .up ∧ (sweeping m).portN.silence = 0
        ∧ (sweeping m).asm.current
          = some { frame := { bare with slots := [⟨1, .busy⟩] }, included := [0, 1, 63], complete := false })
      ∧ RequestPathLaw paused ∧ paused.seq.st = .stepPause ∧ paused.portN.silence = 0 ∧ paused.asm.current.isSome := by
  refine ⟨rfl, rfl, rfl, ?_, ?_, ?_, rfl, fun m => ⟨sweeping_kept m, ?_⟩, paused_kept, rfl, rfl, rfl⟩
  · exact ⟨⟨by decide, by decide, by decide⟩, ⟨rfl, rfl, rfl, rfl⟩, ⟨by decide, by decide⟩, (fun h => by cases h),
      fun a ha => by cases ha⟩
  · exact ⟨⟨by decide, by decide, by decide⟩, ⟨rfl, rfl, rfl⟩, ⟨by decide, by decide⟩, (fun h => by cases h),
      fun a ha => by cases ha⟩
  · refine ⟨⟨by decide, by decide, by decide⟩, ⟨_, rfl, rfl⟩, ⟨by decide, by decide⟩, (fun h => by cases h),
      fun a ha => ?_⟩
    cases ha
    decide
  · cases m <;> exact ⟨rfl, rfl, rfl, rfl, rfl⟩

/-- A GRSP, a GNOT, a packet for the head. -/
def waitingH : State :=
  { up with
    mgmt.respQ := [{ tag := 1, code := 0, status := .ok, results := [] }]
    mgmt.noticeQ := [{ postedAt := 0, body := .restart .power }]
    fwd.fqH := [idlePacketH] }

theorem test_witness_HeadTransmissionEnd :
    up.held = none ∧ up.portH.tx.isSome ∧ up.portH.link = .up ∧ ({ up with portH.link := .down } : State).portH.link = .down
      ∧ waitingH.mgmt.respQ = { tag := 1, code := 0, status := .ok, results := [] } :: []
      ∧ waitingH.mgmt.noticeQ = { postedAt := 0, body := .restart .power } :: [] ∧ waitingH.fwd.fqH = idlePacketH :: []
      ∧ up.mgmt.respQ = [] ∧ up.mgmt.noticeQ = [] ∧ up.fwd.fqH = [] := by decide

theorem test_witness_FramesTakeTurns :
    turns.portH.link = .up ∧ 1 ≤ turns.del.credit
      ∧ frameAt turns.store turns.del.liveCursor = some { seq := 50, frame := bare, place := 80 }
      ∧ turns.del.session = some { cursor := 40, last := 41, frames := 2 }
      ∧ frameAt turns.store 40 = some { seq := 40, frame := bare, place := 0 } ∧ turns.frameTurn = .replay
      ∧ ({ turns with frameTurn := .live } : State).frameTurn = .live
      ∧ ({ turns with del.session := none } : State).del.session = none
      ∧ frameAt ({ turns with del.liveCursor := 53 } : State).store 53 = none
      ∧ ¬ 1 ≤ ({ turns with del.credit := 0 } : State).del.credit := by decide

theorem test_witness_NodeTransmissionEnd :
    let s : State := { up with
      req := { up.req with slots := setAt up.req.slots 1 { use := .queued 0 1, gen := 1 }, firstQ := [1] }
      fwd.fqN := [idlePacketN] }
    s.held = none ∧ s.portN.tx.isSome ∧ s.portN.link = .up ∧ requestQueue s.req = 1 :: []
      ∧ s.req.slots[(1 : Fin 4)].use = .queued 0 1 ∧ s.sourceTurn = .forward ∧ s.fwd.fqN = idlePacketN :: []
      ∧ ({ s with sourceTurn := .request } : State).sourceTurn = .request ∧ requestQueue up.req = [] ∧ up.fwd.fqN = [] := by
  decide

theorem test_witness_KeepaliveSendsIdle :
    let s : State := { up with portH.tx := none, portN.tx := none, portH.keepalive := 0, portN.keepalive := 0 }
    s.held = none ∧ RequestQueueLaw s ∧ s.portH.tx = none ∧ s.portH.keepalive = 0 ∧ takeH s = s ∧ s.portN.tx = none
      ∧ s.portN.keepalive = 0 ∧ requestQueue s.req = [] ∧ s.fwd.fqN = [] :=
  ⟨rfl, ⟨by decide, by decide⟩, rfl, rfl, rfl, rfl, rfl, rfl, rfl⟩

theorem test_witness_ForwardingJoinsOrDrops :
    up.held = none ∧ (1 ≤ (29 : BitVec 5).toNat ∧ (29 : BitVec 5).toNat ≤ 29) ∧ (31 : BitVec 5).toNat = 31
      ∧ (arrive .h up).portN.link = .up ∧ (arrive .h up).fwd.fqN.length < 8
      ∧ 8 ≤ (arrive .h { up with fwd.fqN := List.replicate 8 idlePacketN }).fwd.fqN.length
      ∧ (arrive .h { up with portN := PortBlock.reset }).portN.link = .down
      ∧ (arrive .n up).portH.link = .up ∧ (arrive .n up).fwd.fqH.length < 16
      ∧ 16 ≤ (arrive .n { up with fwd.fqH := List.replicate 16 idlePacketH }).fwd.fqH.length
      ∧ (arrive .n { up with portH := PortBlock.reset }).portH.link = .down := by decide

/-- Entry 1 of the table of Section 8 is hit by code 81h from node 7, entry 0 is not; code 41h from node 9 hits none. -/
theorem test_witness_EventIsFiltered :
    let t := arrive .n events
    let hit : BitVec 5 → Word → Fin 32 → Prop := fun n w i =>
      t.fwd.table[i].enabled = true ∧ (t.fwd.table[i].node = 0 ∨ t.fwd.table[i].node = n)
        ∧ ∀ b < 8, t.fwd.table[i].mask.getLsbD b = true → w.getLsbD b = t.fwd.table[i].code.getLsbD b
    events.held = none ∧ ([] : List Word).length = 0 ∧ 9 < (List.replicate 10 (0 : Word)).length
      ∧ 255 < (([256] : List Word).headD 0).toNat ∧ (List.replicate 9 (255 : Word)).length ≤ 9
      ∧ hit 7 0x81 1 ∧ (∀ j : Fin 32, j < 1 → ¬ hit 7 0x81 j) ∧ ∀ i : Fin 32, ¬ hit 9 0x41 i := by decide

theorem test_witness_SoftTriggerFires : up.held = none := rfl

theorem test_witness_SeenLevelFiresEdgesAndGates :
    let s := withLine .low up
    let g := withTrig 0 { detection := .high, action := .start, bookmark := 0 } s
    s.held = none ∧ s.trig.lines[(0 : Fin 4)].seen = some .low ∧ s.trig.lines[(0 : Fin 4)].seen ≠ some .high
      ∧ s.trig.lines[(0 : Fin 4)].ref ≠ none ∧ s.trig.lines[(0 : Fin 4)].ref ≠ some .high
      ∧ s.trig.map[(0 : Fin 4).val].detection = .rise ∧ up.trig.lines[(0 : Fin 4)].ref = none
      ∧ g.trig.map[(0 : Fin 4).val].detection = .high ∧ g.seq.st ≠ .waitStart ∧ g.seq.st ≠ .stepPause
      ∧ (inState .stepPause g).seq.st = .stepPause := by decide

theorem test_witness_ReleaseTakesTheOldestFrame :
    let s : State := { stored 10 5 up with ret.ackedThrough := 10 }
    s.held = none ∧ s.store.frames.head? = some { seq := 10, frame := bare, place := 0 } ∧ StoreLaw oneFrame
      ∧ older s.store.nextSeq 10 (refloor s).ret.floor = true
      ∧ older s.store.nextSeq 10 (refloor { s with ret.ackedThrough := 9 }).ret.floor = false :=
  ⟨rfl, rfl, oneFrame_stored, by decide, by decide⟩

theorem test_witness_NoticePosting :
    let q : Notice := { postedAt := 0, body := .linkN .down }
    let s : State := { up with mgmt.noticeQ := [q] }
    ({ up with mgmt.items.noticeEnable := 0 } : State).mgmt.items.noticeEnable.getLsbD (noticeKind (.linkN .up)) = false
      ∧ s.mgmt.items.noticeEnable.getLsbD (noticeKind (.linkN .up)) = true
      ∧ (¬ ∃ n ∈ up.mgmt.noticeQ, noticeKind n.body = noticeKind (.linkN .up))
      ∧ s.mgmt.noticeQ = [] ++ q :: [] ∧ noticeKind q.body = noticeKind (.linkN .up) := by decide

theorem test_witness_PacketsSentAreUndamaged :
    idlePacketH.payload.length ≤ 1280 ∧ (List.replicate 16 (0 : Word)).length ≤ 16 := by decide

end Sys2Proof.Tests
end

/-! The Management Unit: a GCMD that finds the Response Queue full (R159), IDENTIFY (R162), and the posting of
notices (R171 to R173). -/

namespace Sys2Proof.Machine

/-! ### Taking a command without a place for its response -/

theorem hasRoom_eq_false_iff (s : State) : hasRoom s = false ↔ 4 ≤ s.mgmt.respQ.length := by
  rw [hasRoom, decide_eq_false_iff_not, Nat.not_lt, Config.responsePlaces]

theorem manage_overflow {s : State} (hfull : hasRoom s = false) (hdr : Header) (code : Word) (body : State → Answer) :
    manage hdr code body s = overflow s := by
  simp [manage, hfull]

/-- RESET has its own overflow test, which comes before the Length is looked at. -/
theorem manageReset_overflow {s : State} (hfull : hasRoom s = false) (hdr : Header) (params : List Word) :
    manageReset hdr params s = overflow s := by
  cases params with
  | nil => simp [manageReset, hfull]
  | cons => exact manage_overflow hfull hdr _ _

theorem takeCommand_overflow {s : State} (hrun : s.held = none) (hfull : hasRoom (arrive .h s) = false) (hdr : Header)
    (code : Nat) (body : State → Answer) : takeCommand hdr code body s = .next (pump (overflow (arrive .h s))) := by
  unfold takeCommand
  rw [receive_running hrun, manage_overflow hfull]

theorem execReset_overflow {s : State} (hrun : s.held = none) (hfull : hasRoom (arrive .h s) = false) (hdr : Header)
    (params : List Word) : execReset hdr params s = .next (pump (overflow (arrive .h s))) := by
  unfold execReset
  rw [receive_running hrun, manageReset_overflow hfull]

theorem execUnknownCommand_overflow {s : State} (hrun : s.held = none) (hfull : hasRoom (arrive .h s) = false)
    (hdr : Header) {payload : List Word} (hcode : codeUnknown payload = true) :
    execUnknownCommand hdr payload s = .next (pump (overflow (arrive .h s))) := by
  unfold execUnknownCommand
  rw [whenRunning_running hrun]
  simp [Machine.onlyIf, hcode, manage_overflow hfull]

theorem execCommandOverflow_overflow {s : State} (hrun : s.held = none) (hfull : hasRoom (arrive .h s) = false)
    (hdr : Header) (payload : List Word) :
    execCommandOverflow hdr payload s = .next (pump (overflow (arrive .h s))) := by
  unfold execCommandOverflow
  rw [whenRunning_running hrun]
  simp [overflowArrival, hfull]

/-- Every row of Table 9-2 but RESET is a command taken with some body; RESET answers only a wrong Length. -/
theorem exec_of_gcmdParts {c : Instr} {hdr : Header} {code : Nat} {params : List Word}
    (h : gcmdParts c = some (hdr, code, params)) :
    (∃ body, ∀ s, exec c s = takeCommand hdr code body s) ∨ c = .reset hdr params := by
  cases c
  case reset => cases h; exact .inr rfl
  all_goals cases h
  all_goals exact .inl ⟨_, fun _ => rfl⟩

/-- Settles O15: each kind of row meets its overflow test after the arrival, and the test is the same. -/
theorem overflowHasNoEffect : Obligations.OverflowHasNoEffect := by
  intro c s hrun hlen hc
  have hfull : hasRoom (arrive .h s) = false := (hasRoom_eq_false_iff _).mpr hlen
  rcases hc with hparts | ⟨hdr, payload, rfl⟩ | ⟨hdr, payload, rfl, hwf⟩
  · obtain ⟨⟨hdr, code, params⟩, hparts⟩ := Option.isSome_iff_exists.mp hparts
    rcases exec_of_gcmdParts hparts with ⟨body, hexec⟩ | rfl
    · exact (hexec s).trans (takeCommand_overflow hrun hfull hdr code body)
    · exact execReset_overflow hrun hfull hdr params
  · exact execCommandOverflow_overflow hrun hfull hdr payload
  · have hcode : codeUnknown payload = true := (Bool.and_eq_true_iff.mp hwf).2
    exact execUnknownCommand_overflow hrun hfull hdr hcode

/-! ### IDENTIFY -/

theorem identifyResult_eq :
    identifyResult = [0x01A6#16, 0x0024#16, 3, 64, 4, 1024, 1, 0, 8, 8, 32, 16, 8, 4, 8, 1280] := by
  decide

/-- Settles O17: IDENTIFY's body leaves the state as it is and answers the constant words of R162. -/
theorem identifyReportsThePart : Obligations.IdentifyReportsThePart := by
  intro hdr s h
  rw [← identifyResult_eq]
  exact takeCommand_answered h rfl

/-! ### Posting a notice -/

theorem satAdd_toNat (c n : Word) : (satAdd c n).toNat = min (c.toNat + n.toNat) 65535 := by
  unfold satAdd
  split
  · rw [BitVec.toNat_add_of_lt (by omega)]
    omega
  · have hmax : (0xFFFF#16).toNat = 65535 := rfl
    omega

theorem noticeWaiting_iff (q : List Notice) (b : NoticeBody) :
    noticeWaiting q b = true ↔ ∃ n ∈ q, noticeKind n.body = noticeKind b := by
  simp [noticeWaiting]

/-- Outside the three kinds that count, the latest posting replaces what waits. -/
theorem mergeNotice_of_other {old new : NoticeBody}
    (hlost : ∀ x y, old = .sweepLost x → new = .sweepLost y → False)
    (hoverrun : ∀ x c y c', old = .startOverrun x c → new = .startOverrun y c' → False)
    (hdrop : ∀ h n h' n', old = .fwdDrop h n → new = .fwdDrop h' n' → False) : mergeNotice old new = new := by
  rw [mergeNotice] <;> assumption

theorem postNotice_of_disabled {b : NoticeBody} {s : State} (h : noticeEnabled s b = false) :
    postNotice b s = { s with mgmt.ctr.suppressed := s.mgmt.ctr.suppressed + 1 } := by
  simp [postNotice, h]

theorem postNotice_of_not_waiting {b : NoticeBody} {s : State} (h : noticeEnabled s b = true)
    (hw : ¬ ∃ n ∈ s.mgmt.noticeQ, noticeKind n.body = noticeKind b) :
    postNotice b s =
      { s with
        mgmt.noticeQ := s.mgmt.noticeQ ++ [{ postedAt := s.mgmt.timeBase, body := b }]
        mgmt.ctr.posted := s.mgmt.ctr.posted + 1 } := by
  simp [postNotice, h, mt (noticeWaiting_iff _ _).mp hw]

theorem postNotice_of_waiting {b : NoticeBody} {s : State} (h : noticeEnabled s b = true)
    (hw : ∃ n ∈ s.mgmt.noticeQ, noticeKind n.body = noticeKind b) :
    postNotice b s =
      { s with
        mgmt.noticeQ := coalesce s.mgmt.timeBase b s.mgmt.noticeQ
        mgmt.ctr.coalesced := s.mgmt.ctr.coalesced + 1 } := by
  simp [postNotice, h, (noticeWaiting_iff _ _).mpr hw]

theorem coalesce_of_other_kinds (time : Word32) {b : NoticeBody} {q : List Notice}
    (h : ∀ n ∈ q, noticeKind n.body ≠ noticeKind b) : coalesce time b q = q :=
  (List.map_congr_left fun n hn => if_neg (h n hn)).trans (List.map_id' q)

/-- A queue that holds one notice of the kind changes at that notice's place alone. -/
theorem coalesce_in_place (time : Word32) {b : NoticeBody} {old : Notice} {before after : List Notice}
    (hold : noticeKind old.body = noticeKind b) (h : ∀ n ∈ before ++ after, noticeKind n.body ≠ noticeKind b) :
    coalesce time b (before ++ old :: after) =
      before ++ { postedAt := time, body := mergeNotice old.body b } :: after := by
  have hbefore := coalesce_of_other_kinds time fun n hn => h n (List.mem_append_left after hn)
  have hafter := coalesce_of_other_kinds time fun n hn => h n (List.mem_append_right before hn)
  have hplace : coalesce time b [old] = [{ postedAt := time, body := mergeNotice old.body b }] := by
    simp [coalesce, hold]
  calc coalesce time b (before ++ old :: after)
      = coalesce time b before ++ coalesce time b [old] ++ coalesce time b after := by simp [coalesce]
    _ = before ++ { postedAt := time, body := mergeNotice old.body b } :: after := by
        simp [hbefore, hplace, hafter]

/-- Settles O59, by the two tests of a posting: its kind enabled, a notice of its kind waiting. -/
theorem noticePosting : Obligations.NoticePosting := by
  intro b s
  refine ⟨postNotice_of_disabled, postNotice_of_not_waiting, fun henabled before old after hq hold hothers => ?_⟩
  have hwaits : ∃ n ∈ s.mgmt.noticeQ, noticeKind n.body = noticeKind b := ⟨old, by simp [hq], hold⟩
  refine ⟨mergeNotice old.body b, ?_, ?_⟩
  · rw [postNotice_of_waiting henabled hwaits, hq, coalesce_in_place _ hold hothers]
  · split
    next hbody => rw [hbody]; exact ⟨_, rfl, satAdd_toNat _ _⟩
    next hbody => rw [hbody]; exact ⟨_, rfl, satAdd_toNat _ _⟩
    next hbody => rw [hbody]; exact ⟨_, _, rfl, satAdd_toNat _ _, satAdd_toNat _ _⟩
    next hlost hoverrun hdrop => exact mergeNotice_of_other hlost hoverrun hdrop

end Sys2Proof.Machine
